-- ==== Sys2Proof/Word.lean ====
section
/-! DEFINITION. The word types of the TD1696: bytes, 16-bit counts, port numbers, port sets. -/

namespace Sys2Proof

/-- A byte of either link. -/
abbrev Byte := BitVec 8

/-- A stream count, stamp, report count or tally: 16 bits (spec 00 §6.3, §6.4). -/
abbrev Count := BitVec 16

/-- A port number 0..15. -/
abbrev PortNo := Fin 16

/-- A set of ports as a 16-bit mask, bit n standing for port n (R174). -/
abbrev PortSet := BitVec 16

/-- An index of the fence table, 0..3 (R114). -/
abbrev FenceNo := Fin 4

/-- The sixteen ports in ascending order. -/
def allPorts : List PortNo := [0, 1, 2, 3, 4, 5, 6, 7, 8, 9, 10, 11, 12, 13, 14, 15]

/-- The four fence-table entries in ascending order. -/
def allFences : List FenceNo := [0, 1, 2, 3]

end Sys2Proof
end

