-- ==== Sys2Proof/Config.lean ====
section
/-! DEFINITION. The capacities and fixed quantities of the part (spec 00 §7). The manual leaves no
result value open, so there is no free value here. -/

namespace Sys2Proof.Config

/-- Slots of the job pool (R1). -/
def poolSlots : Nat := 96

/-- Entries of the report queue, reservations included (R138). -/
def reportEntries : Nat := 32

/-- Reports the history ring holds (R155). -/
def ringSize : Nat := 16

/-- Most data bytes of a job (R3, R33). -/
def maxData : Nat := 24

/-- Largest LEN of a host frame (R25). -/
def maxLen : Nat := 40

/-- Largest LEN of a tributary frame (R91, R181). -/
def maxTribLen : Nat := 25

/-- Most items in one QUEUE answer (R168). -/
def queueWindow : Nat := 16

/-- The pool reserve after pin reset (R6). -/
def resetReserve : Byte := 8#8

/-- The silence code after pin reset (R29). -/
def resetSilenceCode : Byte := 50#8

/-- The quiet period after pin reset, in units of 100 µs (R112). -/
def resetQuiet : Byte := 255#8

/-- START byte of an uplink frame (R174). -/
def uplinkStart : Byte := 0xC5#8

/-- START byte of a tributary frame (R181). -/
def tribStart : Byte := 0xA3#8

/-- Vendor code of the IDENT answer (R169). -/
def vendorCode : Byte := 0x55#8

/-- Part code of the IDENT answer (R169). -/
def partCode : BitVec 16 := 0x1696#16

/-- Revision byte of the parts this manual describes (R169). -/
def revision : Byte := 0x01#8

end Sys2Proof.Config
end

