-- ==== Sys2Proof/Syntax.lean ====
section
/-! DEFINITION. The commands of the TD1696: one constructor of `Instr` per row of
spec/opcode_table.json, with the operands the event carries. -/

namespace Sys2Proof

/-- The three kinds of job (R3). -/
inductive JobKind where
  | send
  | call
  | fetch
  deriving DecidableEq, Repr

/-- The ten OPEN parameters as an OPEN frame carries them, one byte each, in frame order
(R69, R176). `urgent` and `listen` read 00h no and 01h yes (R54). -/
structure OpenParams where
  address : Byte
  quota : Byte
  highMark : Byte
  lowMark : Byte
  replyTimeout : Byte
  retries : Byte
  busyWait : Byte
  busyLimit : Byte
  urgent : Byte
  listen : Byte
  deriving DecidableEq, Repr

/-- A character as a serial line hands it on: its eight bits, and whether its stop bit read
space (R173). -/
structure LineChar where
  byte : Byte
  framingError : Bool
  deriving DecidableEq, Repr

/-- The commands. A whole-frame command is the event in which the frame's last byte arrives. -/
inductive Instr where
  /-- NOISE (R24): a character arrives on RXD. -/
  | noise (byte : Byte) (framingError : Bool)
  /-- OUT_OF_RANGE_LEN (R25): the character after a START arrives. -/
  | outOfRangeLen (byte : Byte) (framingError : Bool)
  /-- TGAP_EXPIRY (R25, R27): the inter-byte gap timer expires. -/
  | tgapExpiry
  /-- DAMAGED_FRAME (R26): a frame of these body bytes (TYPE first) ends with these CRC bytes. -/
  | damagedFrame (body : List Byte) (crc : BitVec 16)
  /-- FRAMING_ERROR (R27): a character whose stop bit reads space arrives on RXD. -/
  | framingError (byte : Byte)
  /-- MALFORMED_FRAME (R38, R41): a frame of these body bytes (TYPE first) arrives with a good CRC. -/
  | malformedFrame (body : List Byte)
  /-- SEND (R56). -/
  | send (stamp : Count) (port : Byte) (data : List Byte)
  /-- CALL (R56). -/
  | call (stamp : Count) (port : Byte) (data : List Byte)
  /-- FETCH (R56). -/
  | fetch (stamp : Count) (port : Byte) (data : List Byte)
  /-- FENCE (R116). -/
  | fence (stamp : Count) (members : PortSet)
  /-- MARK (R60). -/
  | mark (stamp : Count) (echo : Byte)
  /-- OPEN (R71). -/
  | openPort (stamp : Count) (port : Byte) (params : OpenParams)
  /-- CLOSE_FINISH (R72). -/
  | closeFinish (stamp : Count) (port : Byte)
  /-- CLOSE_DISCARD (R73). -/
  | closeDiscard (stamp : Count) (port : Byte)
  /-- SETUP (R62). -/
  | setup (stamp : Count) (silenceCode reserve scanEnable : Byte)
  /-- FILL (R47). -/
  | fill
  /-- RESUME_CONTINUE (R42). -/
  | resumeContinue (count : Count)
  /-- RESUME_REBASE (R43). -/
  | resumeRebase (count : Count)
  /-- RESTART (R45). -/
  | restart
  /-- TEND_RETRY (R85). -/
  | tendRetry (port : Byte)
  /-- TEND_SKIP (R86). -/
  | tendSkip (port : Byte)
  /-- TEND_FLUSH (R87). -/
  | tendFlush (port : Byte)
  /-- QUERY_HUB (R165); the argument is not examined (R161). -/
  | queryHub (tag argHi argLo : Byte)
  /-- QUERY_PORT (R166); the argument's high byte is the port. -/
  | queryPort (tag argHi argLo : Byte)
  /-- QUERY_QUEUE (R168); port and start position. -/
  | queryQueue (tag argHi argLo : Byte)
  /-- QUERY_TALLY (R171); the argument's low byte is the clear flag. -/
  | queryTally (tag argHi argLo : Byte)
  /-- QUERY_IDENT (R169); the argument is not examined. -/
  | queryIdent (tag argHi argLo : Byte)
  /-- RECALL (R156). -/
  | recall (rc : Count)
  /-- SILENCE_TIMER_EXPIRY (R28). -/
  | silenceTimerExpiry
  /-- END_OF_TRANSMISSION (R153). -/
  | endOfTransmission
  /-- SEND_END_OF_SENDING (R99). -/
  | sendEndOfSending
  /-- COMMAND_END_OF_SENDING (R100). -/
  | commandEndOfSending
  /-- POLL_END_OF_SENDING (R131). -/
  | pollEndOfSending
  /-- DEADLINE_MET (R101): a tributary START byte arrives, followed by this address byte. `none`
  stops between the two bytes, so that an expiry of the deadline may fall between them. -/
  | deadlineMet (address : Option Byte)
  /-- REPLY_DONE (R103): a good REPLY frame with status DONE and these bytes after it ends. -/
  | replyDone (address : Byte) (after : List Byte)
  /-- REPLY_BUSY (R104): a good REPLY frame with status BUSY and these bytes after it ends. -/
  | replyBusy (address : Byte) (after : List Byte)
  /-- REPLY_REFUSED (R106): a good REPLY frame with status REFUSED and these bytes after it ends. -/
  | replyRefused (address : Byte) (after : List Byte)
  /-- REPLY_EVENT (R133): a good REPLY frame with status EVENT and these bytes after it ends. -/
  | replyEvent (address : Byte) (after : List Byte)
  /-- REPLY_NONE (R132): a good REPLY frame with status NONE and these bytes after it ends. -/
  | replyNone (address : Byte) (after : List Byte)
  /-- TRIBUTARY_DAMAGED_FRAME (R91): these characters arrive on the pair, the last of them ending
  a frame by a bad CRC, a LEN above 25 or a framing error. -/
  | tributaryDamagedFrame (chars : List LineChar)
  /-- TRIBUTARY_CHARACTER_GAP_EXPIRY (R91). -/
  | tributaryCharacterGapExpiry
  /-- DEADLINE_EXPIRY (R107). -/
  | deadlineExpiry
  /-- BUSY_WAIT_EXPIRY (R105): the timer of this port expires. -/
  | busyWaitExpiry (port : PortNo)
  /-- TQUIET_EXPIRY (R113). -/
  | tquietExpiry
  /-- ABANDONED_CHARACTER_END (R111). -/
  | abandonedCharacterEnd
  /-- ATTN_CHANGE (R127): the synchronized level becomes this (true: asserted). -/
  | attnChange (asserted : Bool)
  /-- RESET_ASSERTED (R183). -/
  | resetAsserted
  /-- RESET_RELEASED (R183): RESET is released with the straps at these levels. -/
  | resetReleased (rate1 rate0 : Bool)
  /-- RESUME_UNKNOWN_MODE (R44). -/
  | resumeUnknownMode (mode : Byte) (count : Count)
  /-- TEND_UNKNOWN_ACTION (R84). -/
  | tendUnknownAction (port action : Byte)
  /-- CLOSE_UNKNOWN_MODE (R65). -/
  | closeUnknownMode (stamp : Count) (port mode : Byte)
  /-- QUERY_UNKNOWN_KIND (R162). -/
  | queryUnknownKind (tag kind argHi argLo : Byte)
  /-- TRIBUTARY_OTHER_FRAME (R102): a good tributary frame of another form ends. -/
  | tributaryOtherFrame (address kind : Byte) (data : List Byte)
  deriving DecidableEq, Repr

end Sys2Proof
end

