-- ==== Sys2Proof/Decode.lean ====
section
/-! DEFINITION. The CRC-16 of both links (R175), the host-frame layouts read and written (R33, R176),
the two frame envelopes (R174, R181), and `decodeTableWord`. The opcode table gives no row any bits,
so no word spells a command. -/

namespace Sys2Proof

/-- One bit of the CRC: exclusive-or with the top bit, shift left, and 1021h if that was 1 (R175). -/
def crcBit (r : BitVec 16) (b : Bool) : BitVec 16 :=
  if r.getLsbD 15 ^^ b then (r <<< 1) ^^^ 0x1021#16 else r <<< 1

/-- One byte of the CRC, most significant bit first (R175). -/
def crcByte (r : BitVec 16) (b : Byte) : BitVec 16 :=
  [7, 6, 5, 4, 3, 2, 1, 0].foldl (fun acc i => crcBit acc (b.getLsbD i)) r

/-- The CRC-16 of a list of bytes, register starting at FFFFh, no final inversion (R175). -/
def crc16 (bytes : List Byte) : BitVec 16 :=
  bytes.foldl crcByte 0xFFFF#16

/-- The high byte of a 16-bit field, sent first (R174). -/
def hiByte (c : BitVec 16) : Byte := c.extractLsb' 8 8

/-- The low byte of a 16-bit field (R174). -/
def loByte (c : BitVec 16) : Byte := c.extractLsb' 0 8

/-- A 16-bit field from its two bytes, high byte first (R174). -/
def word16 (hi lo : Byte) : BitVec 16 := hi ++ lo

/-- The two bytes of a 16-bit field, high byte first (R174). -/
def bytes16 (c : BitVec 16) : List Byte := [hiByte c, loByte c]

/-- A structurally sound host frame, by the layouts of R176. -/
inductive HostFrame where
  | job (kind : JobKind) (stamp : Count) (port : Byte) (data : List Byte)
  | fence (stamp : Count) (members : PortSet)
  | mark (stamp : Count) (echo : Byte)
  | openPort (stamp : Count) (port : Byte) (params : OpenParams)
  | close (stamp : Count) (port mode : Byte)
  | setup (stamp : Count) (silenceCode reserve scanEnable : Byte)
  | fill
  | resume (mode : Byte) (count : Count)
  | restart
  | tend (port action : Byte)
  | query (tag kind argHi argLo : Byte)
  | recall (rc : Count)
  deriving DecidableEq, Repr

/-- The TYPE code of a job frame, which is also the code of its item kind (R33, R180). -/
def JobKind.code : JobKind → Byte
  | .send => 0x21#8
  | .call => 0x22#8
  | .fetch => 0x23#8

/-- The TYPE code of a host frame (R33). -/
def HostFrame.typeCode : HostFrame → Byte
  | .job k _ _ _ => k.code
  | .fence _ _ => 0x24#8
  | .mark _ _ => 0x25#8
  | .openPort _ _ _ => 0x26#8
  | .close _ _ _ => 0x27#8
  | .setup _ _ _ _ => 0x28#8
  | .fill => 0x40#8
  | .resume _ _ => 0x41#8
  | .restart => 0x42#8
  | .tend _ _ => 0x43#8
  | .query _ _ _ _ => 0x44#8
  | .recall _ => 0x45#8

/-- The ten parameter bytes in the order of the OPEN frame (R176). -/
def OpenParams.bytes (p : OpenParams) : List Byte :=
  [p.address, p.quota, p.highMark, p.lowMark, p.replyTimeout, p.retries, p.busyWait, p.busyLimit,
    p.urgent, p.listen]

/-- The bytes of a host frame after TYPE (R176). -/
def HostFrame.fieldBytes : HostFrame → List Byte
  | .job _ stamp port data => bytes16 stamp ++ port :: data
  | .fence stamp members => bytes16 stamp ++ bytes16 members
  | .mark stamp echo => bytes16 stamp ++ [echo]
  | .openPort stamp port params => bytes16 stamp ++ port :: params.bytes
  | .close stamp port mode => bytes16 stamp ++ [port, mode]
  | .setup stamp code reserve enable => bytes16 stamp ++ [code, reserve, enable]
  | .fill => []
  | .resume mode count => mode :: bytes16 count
  | .restart => []
  | .tend port action => [port, action]
  | .query tag kind argHi argLo => [tag, kind, argHi, argLo]
  | .recall rc => bytes16 rc

/-- TYPE and body of a host frame, the bytes LEN counts (R176). -/
def HostFrame.body (f : HostFrame) : List Byte := f.typeCode :: f.fieldBytes

/-- The fields of a job frame: stamp, port, 0..24 data bytes (R33). -/
def readJob (k : JobKind) : List Byte → Option HostFrame
  | sh :: sl :: port :: data =>
      if data.length ≤ Config.maxData then some (.job k (word16 sh sl) port data) else none
  | _ => none

/-- The fields of a FENCE frame (R176). -/
def readFence : List Byte → Option HostFrame
  | [sh, sl, mh, ml] => some (.fence (word16 sh sl) (word16 mh ml))
  | _ => none

/-- The fields of a MARK frame (R176). -/
def readMark : List Byte → Option HostFrame
  | [sh, sl, echo] => some (.mark (word16 sh sl) echo)
  | _ => none

/-- The fields of an OPEN frame (R176). -/
def readOpen : List Byte → Option HostFrame
  | [sh, sl, port, a, q, h, l, rt, re, bw, bl, u, li] =>
      some (.openPort (word16 sh sl) port ⟨a, q, h, l, rt, re, bw, bl, u, li⟩)
  | _ => none

/-- The fields of a CLOSE frame (R176). -/
def readClose : List Byte → Option HostFrame
  | [sh, sl, port, mode] => some (.close (word16 sh sl) port mode)
  | _ => none

/-- The fields of a SETUP frame (R176). -/
def readSetup : List Byte → Option HostFrame
  | [sh, sl, code, reserve, enable] => some (.setup (word16 sh sl) code reserve enable)
  | _ => none

/-- The fields of a RESUME frame (R176). -/
def readResume : List Byte → Option HostFrame
  | [mode, ch, cl] => some (.resume mode (word16 ch cl))
  | _ => none

/-- The fields of a TEND frame (R176). -/
def readTend : List Byte → Option HostFrame
  | [port, action] => some (.tend port action)
  | _ => none

/-- The fields of a QUERY frame (R176). -/
def readQuery : List Byte → Option HostFrame
  | [tag, kind, ah, al] => some (.query tag kind ah al)
  | _ => none

/-- The fields of a RECALL frame (R176). -/
def readRecall : List Byte → Option HostFrame
  | [ch, cl] => some (.recall (word16 ch cl))
  | _ => none

/-- A frame of TYPE alone (R176). -/
def readBare (f : HostFrame) : List Byte → Option HostFrame
  | [] => some f
  | _ => none

/-- The structural check of R33: the TYPE is known and LEN is one the table allows for it. `none`
is a malformed frame. -/
def decodeFrame : List Byte → Option HostFrame
  | [] => none
  | ty :: fields =>
      if ty = 0x21#8 then readJob .send fields
      else if ty = 0x22#8 then readJob .call fields
      else if ty = 0x23#8 then readJob .fetch fields
      else if ty = 0x24#8 then readFence fields
      else if ty = 0x25#8 then readMark fields
      else if ty = 0x26#8 then readOpen fields
      else if ty = 0x27#8 then readClose fields
      else if ty = 0x28#8 then readSetup fields
      else if ty = 0x40#8 then readBare .fill fields
      else if ty = 0x41#8 then readResume fields
      else if ty = 0x42#8 then readBare .restart fields
      else if ty = 0x43#8 then readTend fields
      else if ty = 0x44#8 then readQuery fields
      else if ty = 0x45#8 then readRecall fields
      else none

/-- A field of one byte from a number, as the layouts carry it (R180). -/
def byteOf (n : Nat) : Byte := BitVec.ofNat 8 n

/-- The uplink envelope: START, LEN, TYPE and body, CRC-16 over LEN and the rest (R174, R175). -/
def uplinkEnvelope (body : List Byte) : List Byte :=
  Config.uplinkStart :: byteOf body.length ::
    (body ++ bytes16 (crc16 (byteOf body.length :: body)))

/-- The tributary envelope: START, address, kind, LEN, data, CRC-16 over bytes 2 to LEN + 4
(R181). -/
def tribEnvelope (address kind : Byte) (data : List Byte) : List Byte :=
  Config.tribStart :: ((address :: kind :: byteOf data.length :: data) ++
    bytes16 (crc16 (address :: kind :: byteOf data.length :: data)))

/-- Whether some frame can carry the operands: at most 24 job data bytes (R33), a body of 1..40
bytes (R25), a tributary data field of at most 25 bytes, status included (R91, R181). -/
def Instr.carried : Instr → Bool
  | .damagedFrame body _ => decide (1 ≤ body.length ∧ body.length ≤ Config.maxLen)
  | .malformedFrame body => decide (1 ≤ body.length ∧ body.length ≤ Config.maxLen)
  | .send _ _ data => decide (data.length ≤ Config.maxData)
  | .call _ _ data => decide (data.length ≤ Config.maxData)
  | .fetch _ _ data => decide (data.length ≤ Config.maxData)
  | .replyDone _ after => decide (after.length < Config.maxTribLen)
  | .replyBusy _ after => decide (after.length < Config.maxTribLen)
  | .replyRefused _ after => decide (after.length < Config.maxTribLen)
  | .replyEvent _ after => decide (after.length < Config.maxTribLen)
  | .replyNone _ after => decide (after.length < Config.maxTribLen)
  | .tributaryOtherFrame _ _ data => decide (data.length ≤ Config.maxTribLen)
  | _ => true

/-- The kind code of a tributary REPLY frame (R181). -/
def replyKind : Byte := 0x04#8

/-- The command a table word spells: the table gives no row any bits, so none. -/
def decodeTableWord (_nbits _w : Nat) : Option Instr := none

end Sys2Proof
end

