-- ==== Sys2Proof/Machine/State.lean ====
section
/-! DEFINITION. The whole state of the TD1696 as plain data, the reasons a step can stop, and the
state after pin reset. -/

namespace Sys2Proof.Machine

/-! ### Uplink and stream -/

/-- Phase of the Uplink Receiver (R23). In IN_FRAME it holds the bytes received after START, LEN
first, and tGAP runs. -/
inductive UplinkRx where
  | hunt
  | inFrame (bytes : List Byte)
  deriving DecidableEq, Repr

/-- A character on RXD part way (R173): how many samples are still to come until the middle of its
next bit, and the levels read at the middles so far, start bit first. -/
structure PartChar where
  wait : Nat
  bits : List Bool
  deriving DecidableEq, Repr

/-- The strapped uplink rates (R23), named by RATE1:RATE0. -/
inductive Rate where
  | r00
  | r01
  | r10
  | r11
  deriving DecidableEq, Repr

/-- Link state (R28). -/
inductive Link where
  | quiet
  | live
  deriving DecidableEq, Repr

/-- NO_ROOM detail: the lacking resource (R31, R52). -/
inductive NoRoom where
  | pool
  | quota
  | fenceTable
  | reports
  deriving DecidableEq, Repr

/-- Hold cause (R31); the detail is present for NO_ROOM alone. -/
inductive HoldCause where
  | restarted
  | check
  | malformed
  | gap
  | noRoom (detail : NoRoom)
  | silence
  deriving DecidableEq, Repr

/-- Stream state (R31); the cause is present in HOLD alone. -/
inductive StreamState where
  | run
  | hold (cause : HoldCause)
  deriving DecidableEq, Repr

/-! ### Items and ports -/

/-- An item of a port queue (R3). Its port is the port whose queue holds it. -/
inductive Item where
  | job (kind : JobKind) (stamp : Count) (data : List Byte) (attempts busy : Nat)
  | marker (stamp : Count) (fence : FenceNo)
  deriving DecidableEq, Repr

/-- Fault cause (R68); the refusal code is present for REFUSED alone. -/
inductive FaultCause where
  | noReply
  | badReply
  | refused (code : Byte)
  | busyLimit
  deriving DecidableEq, Repr

/-- Close mode (R68). -/
inductive CloseMode where
  | finish
  | discard
  deriving DecidableEq, Repr

/-- What a CLOSING port keeps of its close: mode, stamp of the CLOSE that began it, and the discard
result so far (R68). -/
structure Closing where
  mode : CloseMode
  stamp : Count
  count : Nat
  last : Option Count
  deriving DecidableEq, Repr

/-- Port state with the fields that belong to it (R68). -/
inductive PortState where
  | closed
  | opened
  | faulted (cause : FaultCause)
  | closing (c : Closing)
  deriving DecidableEq, Repr

/-- The record of one port (R68) with its queue, flags and settled count (R7, R13, R19).
`busyWait` holds the tBSY code the running timer was started with (R105). -/
structure Port where
  state : PortState
  params : OpenParams
  queue : List Item
  congested : Bool
  settled : Count
  dirty : Bool
  busyWait : Option Byte
  deriving DecidableEq, Repr

/-! ### Fences -/

/-- A GATHERING fence entry (R114). -/
structure Gathering where
  stamp : Count
  members : PortSet
  arrived : PortSet
  deriving DecidableEq, Repr

/-- A fence-table entry, FREE or GATHERING (R114). -/
inductive FenceEntry where
  | free
  | gathering (g : Gathering)
  deriving DecidableEq, Repr

/-! ### Tributary bus and scanner -/

/-- Kind of a transaction (R90). -/
inductive TxnKind where
  | job (kind : JobKind)
  | poll
  deriving DecidableEq, Repr

/-- The transaction record (R90). -/
structure Transaction where
  kind : TxnKind
  port : PortNo
  address : Byte
  replyTimeout : Byte
  deriving DecidableEq, Repr

/-- The reply deadline in AWAITING (R101): running; passed while the address byte was awaited and
not yet taken; or met and stopped for good. -/
inductive Deadline where
  | running
  | passed
  | met
  deriving DecidableEq, Repr

/-- The bus state with what it holds (R90, R111). `quiet` holds tQUIET in units of 100 µs, and, while a
character of a frame that a RESTART abandoned is still being driven, that frame (R182). -/
inductive Bus where
  | idle
  | sending (t : Transaction)
  | awaiting (t : Transaction) (d : Deadline)
  | quiet (period : Byte) (abandoned : Option (List Byte))
  deriving DecidableEq, Repr

/-- Phase of the tributary receiver (R91). In IN_FRAME it holds the bytes after START, address
first. -/
inductive TribRx where
  | hunt
  | inFrame (bytes : List Byte)
  deriving DecidableEq, Repr

/-- Scan state (R128). -/
inductive ScanState where
  | inactive
  | pending
  | running
  deriving DecidableEq, Repr

/-! ### Reports -/

/-- Why a fence broke (R120). -/
inductive BreakReason where
  | flush
  | closeDiscard
  | closedFaulted
  | failedWhileClosing
  deriving DecidableEq, Repr

/-- Outcome of a fence (R122). -/
inductive FenceOutcome where
  | released
  | broken (port : PortNo) (reason : BreakReason)
  deriving DecidableEq, Repr

/-- REJECT reason (R51). -/
inductive RejectReason where
  | notOpen
  | notClosed
  | badPort
  | badParam
  | addrTaken
  | badMembers
  deriving DecidableEq, Repr

/-- CLOSED cause (R78). -/
inductive ClosedCause where
  | finished
  | discarded
  | closedFaulted
  | failedWhileClosing
  deriving DecidableEq, Repr

/-- The fields of a queued report, by kind (section 8.1.1). -/
inductive ReportBody where
  | reply (port : PortNo) (stamp : Count) (data : List Byte)
  | fault (port : PortNo) (stamp : Count) (kind : JobKind) (cause : FaultCause) (attempts : Nat)
      (closing : Bool)
  | event (port : PortNo) (address : Byte) (data : List Byte)
  | fence (stamp : Count) (members : PortSet) (outcome : FenceOutcome)
  | reject (stamp : Count) (frameType : Byte) (reason : RejectReason)
  | closed (port : PortNo) (stamp : Count) (cause : ClosedCause) (count : Nat) (last : Option Count)
  | echo (stamp : Count)
  deriving DecidableEq, Repr

/-- A queued report with its report count (R139). -/
structure Report where
  rc : Count
  body : ReportBody
  deriving DecidableEq, Repr

/-- The bus as a HUB answer shows it (R165). -/
inductive BusView where
  | idle
  | sending (kind : TxnKind) (port : PortNo)
  | awaiting (kind : TxnKind) (port : PortNo)
  | quiet
  deriving DecidableEq, Repr

/-- The content of a HUB answer (R165). -/
structure HubView where
  stream : StreamState
  ac : Count
  link : Link
  silenceCode : Byte
  poolReserve : Byte
  scanEnable : Bool
  free : Nat
  poolLow : Bool
  nextRC : Count
  unsent : Nat
  reservations : Nat
  ringCount : Nat
  fences : Vector FenceEntry 4
  scan : ScanState
  bus : BusView
  deriving DecidableEq, Repr

/-- The head of a queue as a PORT answer shows it (R166). -/
inductive HeadView where
  | none
  | job (kind : JobKind) (stamp : Count) (attempts busy : Nat)
  | marker (stamp : Count) (fence : FenceNo)
  deriving DecidableEq, Repr

/-- The content of a PORT answer (R166). -/
structure PortView where
  port : PortNo
  state : PortState
  params : OpenParams
  bound : Bool
  occupancy : Nat
  congested : Bool
  settled : Count
  dirty : Bool
  busyWaiting : Bool
  inFlight : Bool
  head : HeadView
  deriving DecidableEq, Repr

/-- An item as a QUEUE answer shows it: kind (none for a marker) and stamp (R168). -/
structure ItemView where
  kind : Option JobKind
  stamp : Count
  deriving DecidableEq, Repr

/-- What the answer slot can hold (R148, R163). -/
inductive Answer where
  | hub (tag : Byte) (v : HubView)
  | port (tag : Byte) (v : PortView)
  | queue (tag : Byte) (port : PortNo) (start : Byte) (total : Nat) (items : List ItemView)
  | tally (tag : Byte) (clear : Byte) (values : Vector Count 15)
  | ident (tag : Byte)
  | badQuery (tag kind argHi argLo : Byte)
  | recallMiss (requested : Count) (held : Option (Count × Count)) (next : Count)
  | recallCopy (r : Report)
  deriving DecidableEq, Repr

/-- A frame in transmission: its kind and the content fixed at its start (R149). -/
inductive TxFrame where
  | stream (state : StreamState) (ac next : Count) (link : Link)
  | flow (congested : PortSet) (poolLow : Bool) (free : Nat)
  | progress (entries : List (PortNo × Count))
  | report (r : Report)
  | answer (a : Answer)
  deriving DecidableEq, Repr

/-- The transmit line (R149). -/
inductive Line where
  | free
  | busy (frame : TxFrame)
  deriving DecidableEq, Repr

/-- The turn record (R149). -/
inductive Turn where
  | queue
  | progress
  deriving DecidableEq, Repr

/-- The fifteen tallies (R170). -/
inductive Tally where
  | noise
  | checkErr
  | malformed
  | duplicate
  | heldDiscard
  | holdEntry
  | misdirected
  | answerOverrun
  | recallMiss
  | busTimeout
  | busBadReply
  | busBusy
  | strayReply
  | scanSilent
  | jobFailed
  deriving DecidableEq, Repr

/-! ### The state -/

/-- Everything the TD1696 keeps. `decisionDue` and `pending` are the model's own. -/
structure State where
  /-- Uplink receiver (R23). -/
  rx : UplinkRx
  /-- The level of RXD, true at mark, as last sampled (R173). -/
  rxdLevel : Bool
  /-- The character that RXD is part way through, from its fall to the middle of its stop bit
  (R173). -/
  rxdChar : Option PartChar
  /-- Rate selected by the straps (R23). -/
  rate : Rate
  /-- Link state (R28). -/
  link : Link
  /-- The silence timer: stopped, or running with this interval in ms (R28, R29). -/
  silenceTimer : Option Nat
  /-- Silence code (R29). -/
  silenceCode : Byte
  /-- Accepted count (R30). -/
  ac : Count
  /-- Stream state (R31). -/
  stream : StreamState
  /-- Free count of the job pool (R1). -/
  free : Nat
  /-- Pool reserve (R6). -/
  poolReserve : Byte
  /-- Pool-low flag (R5). -/
  poolLow : Bool
  /-- The sixteen port records (R68). -/
  ports : Vector Port 16
  /-- The fence table (R114). -/
  fences : Vector FenceEntry 4
  /-- Bus state and transaction record (R90). -/
  bus : Bus
  /-- Tributary receiver (R91). -/
  tribRx : TribRx
  /-- Round-robin pointer of the urgent class (R95). -/
  urgentPtr : PortNo
  /-- Round-robin pointer of the normal class (R95). -/
  normalPtr : PortNo
  /-- The synchronized level of ATTN, true while asserted (R127). -/
  attn : Bool
  /-- Scan state (R128). -/
  scan : ScanState
  /-- Next index, 0..16 (R128). -/
  nextIndex : Nat
  /-- Alternation flag (R128). -/
  alternation : Bool
  /-- Scan enable (R128). -/
  scanEnable : Bool
  /-- Unsent queued reports, head first (R138). -/
  reports : List Report
  /-- Reservations held (R138). -/
  reservations : Nat
  /-- Next report count (R139). -/
  nextRC : Count
  /-- History ring, earliest report first (R155). -/
  ring : List Report
  /-- Answer slot (R148). -/
  slot : Option Answer
  /-- STREAM pending (R144). -/
  streamPending : Bool
  /-- FLOW pending (R145). -/
  flowPending : Bool
  /-- PROGRESS pending (R146). -/
  progressPending : Bool
  /-- Transmit line (R149). -/
  line : Line
  /-- Turn record (R149). -/
  turn : Turn
  /-- The tallies in the order of R170. -/
  tallies : Vector Count 15
  /-- RESET is held low (R183). -/
  resetHeld : Bool
  /-- Model's own: the current event brings an arbiter decision (R92); false between events. -/
  decisionDue : Bool
  /-- Model's own: the commands that wait, first in first out. -/
  pending : List Instr
  deriving DecidableEq, Repr

/-- The manual names no event at which the hub stops, so there is no fault. -/
inductive Fault where
  deriving DecidableEq, Repr

/-- Why a command is not run. -/
inductive Refusal where
  /-- Raised by `exec`'s arm of a command that has no meaning yet. Safe: the machine stops. -/
  | notModelled (mnemonic : String)
  /-- Raised by a whole-frame command whose operands no frame can carry (`Instr.carried` is false):
  no such event reaches the hub. Safe: the machine stops. -/
  | illFormed
  deriving DecidableEq, Repr

/-! ### Reset -/

/-- All ten parameters 0, urgent and listen reading no (R68). -/
def zeroParams : OpenParams := ⟨0, 0, 0, 0, 0, 0, 0, 0, 0, 0⟩

/-- The record of a port after either reset (R22, R68). -/
def resetPort : Port :=
  { state := .closed, params := zeroParams, queue := [], congested := false, settled := 0,
    dirty := false, busyWait := none }

/-- The machine right after pin reset, before its first transmitter choice. The manual gives no
value for the straps and the levels of ATTN and RXD, which are inputs: DESIGN CHOICE straps 00, ATTN
released and RXD idle at mark (notes/assumptions 7, 8 and 30). -/
def State.reset : State :=
  { rx := .hunt
    rxdLevel := true
    rxdChar := none
    rate := .r00
    link := .quiet
    silenceTimer := none
    silenceCode := Config.resetSilenceCode
    ac := 0
    stream := .hold .restarted
    free := Config.poolSlots
    poolReserve := Config.resetReserve
    poolLow := false
    ports := Vector.replicate 16 resetPort
    fences := Vector.replicate 4 .free
    bus := .quiet Config.resetQuiet none
    tribRx := .hunt
    urgentPtr := 0
    normalPtr := 0
    attn := false
    scan := .inactive
    nextIndex := 0
    alternation := false
    scanEnable := true
    reports := []
    reservations := 0
    nextRC := 0
    ring := []
    slot := none
    streamPending := true
    flowPending := false
    progressPending := false
    line := .free
    turn := .progress
    tallies := Vector.replicate 15 0
    resetHeld := false
    decisionDue := false
    pending := [] }

end Sys2Proof.Machine
end

