-- ==== Sys2Proof/Machine/Operands.lean ====
section
/-! DEFINITION. Reading the fields of frames: counts compared modulo 65536, port numbers, codes,
parameter ranges, port sets. -/

namespace Sys2Proof.Machine

/-- `c` is behind `ac` by 1..32767 counts (spec 00 §6.3). -/
def behind (c ac : Count) : Bool := decide (1 ≤ (ac - c).toNat ∧ (ac - c).toNat ≤ 32767)

/-- `c` equals `ac` or is ahead of it by 1..32767 counts, the range REBASE accepts (R43). -/
def rebaseRange (c ac : Count) : Bool := decide ((c - ac).toNat ≤ 32767)

/-- The port a port byte names; a byte of 16..255 names none (R53). -/
def portOfByte (b : Byte) : Option PortNo :=
  if h : b.toNat < 16 then some ⟨b.toNat, h⟩ else none

/-- A byte of an enumerated field with the codes 00h and 01h (R54). -/
def isCode01 (b : Byte) : Bool := decide (b.toNat ≤ 1)

/-- The ranges of R63, check 3. -/
def paramsInRange (p : OpenParams) : Bool :=
  decide (1 ≤ p.address.toNat ∧ p.address.toNat ≤ 30) &&
  decide (1 ≤ p.quota.toNat ∧ p.quota.toNat ≤ 96) &&
  decide (1 ≤ p.highMark.toNat ∧ p.highMark.toNat ≤ p.quota.toNat) &&
  decide (p.lowMark.toNat + 1 ≤ p.highMark.toNat) &&
  decide (1 ≤ p.replyTimeout.toNat) &&
  decide (p.retries.toNat ≤ 7) &&
  decide (1 ≤ p.busyWait.toNat) &&
  decide (p.busyLimit.toNat ≤ 15) &&
  isCode01 p.urgent && isCode01 p.listen

/-- A parameter byte that reads yes (R54). -/
def isYes (b : Byte) : Bool := b == 1#8

/-- The ports a set names, in ascending order (R53). -/
def members (m : PortSet) : List PortNo := allPorts.filter fun p => m.getLsbD p.val

/-- The set of the ports that satisfy `f` (R174). -/
def portSetOf (f : PortNo → Bool) : PortSet :=
  allPorts.foldl (fun m p => if f p then m ||| (1#16 <<< p.val) else m) 0#16

/-- The stamp of an item (R3). -/
def Item.stamp : Item → Count
  | .job _ stamp _ _ _ => stamp
  | .marker stamp _ => stamp

/-- The item is the marker of fence entry `i`. -/
def Item.isMarkerOf (i : FenceNo) : Item → Bool
  | .job _ _ _ _ _ => false
  | .marker _ j => j == i

/-- The tGAP of a rate in ns: 10 character times (R23). -/
def Rate.tGapNs : Rate → Nat
  | .r00 => 1736000
  | .r01 => 868000
  | .r10 => 434000
  | .r11 => 217000

/-- The rate that strap levels select (R23). -/
def Rate.ofStraps (rate1 rate0 : Bool) : Rate :=
  match rate1, rate0 with
  | false, false => .r00
  | false, true => .r01
  | true, false => .r10
  | true, true => .r11

/-- The device address a port holds bound: its address parameter while it is not CLOSED (R70). -/
def Port.bound (p : Port) : Option Byte :=
  match p.state with
  | .closed => none
  | _ => some p.params.address

/-- The port is OPEN or FAULTED, the states that admit jobs and markers (R55, R58). -/
def Port.admits (p : Port) : Bool :=
  match p.state with
  | .opened => true
  | .faulted _ => true
  | _ => false

/-- The port is not CLOSED and has listen yes, so a scan polls it (R130). -/
def Port.listens (p : Port) : Bool :=
  p.bound.isSome && isYes p.params.listen

end Sys2Proof.Machine
end

