-- ==== Sys2Proof/Machine/Ops.lean ====
section
/-! DEFINITION. The named operations over the port records, the pool, the report queue, the tallies,
the stream state and the link, on which every meaning is built. -/

namespace Sys2Proof.Machine

/-! ### Port records and fence entries -/

/-- The record of port `p`. -/
def State.port (s : State) (p : PortNo) : Port := s.ports[p]

/-- Writes the record of port `p`. -/
def setPort (p : PortNo) (x : Port) (s : State) : State :=
  { s with ports := s.ports.set p.val x p.isLt }

/-- Changes the record of port `p`. -/
def modPort (p : PortNo) (f : Port → Port) (s : State) : State := setPort p (f (s.port p)) s

/-- Sets the state of port `p` (R68). -/
def setPortState (p : PortNo) (st : PortState) (s : State) : State :=
  modPort p (fun x => { x with state := st }) s

/-- The fence-table entry `i`. -/
def State.fence (s : State) (i : FenceNo) : FenceEntry := s.fences[i]

/-- Writes the fence-table entry `i`. -/
def setFence (i : FenceNo) (e : FenceEntry) (s : State) : State :=
  { s with fences := s.fences.set i.val e i.isLt }

/-! ### Tallies -/

/-- The index of a tally in the order of R170. -/
def Tally.index : Tally → Fin 15
  | .noise => 0
  | .checkErr => 1
  | .malformed => 2
  | .duplicate => 3
  | .heldDiscard => 4
  | .holdEntry => 5
  | .misdirected => 6
  | .answerOverrun => 7
  | .recallMiss => 8
  | .busTimeout => 9
  | .busBadReply => 10
  | .busBusy => 11
  | .strayReply => 12
  | .scanSilent => 13
  | .jobFailed => 14

/-- The value of a tally. -/
def State.tally (s : State) (t : Tally) : Count := s.tallies[t.index]

/-- An increment that stays at 65535 (R170, spec 00 §6.4). -/
def saturatingInc (c : Count) : Count := if c = 65535#16 then c else c + 1#16

/-- Increments a tally (R170). -/
def bump (t : Tally) (s : State) : State :=
  { s with tallies := s.tallies.set t.index.val (saturatingInc (s.tally t)) t.index.isLt }

/-! ### Report queue -/

/-- Report entries in use: unsent reports and reservations (R138). -/
def entriesInUse (s : State) : Nat := s.reports.length + s.reservations

/-- A report entry is free (R138). -/
def entryFree (s : State) : Bool := decide (entriesInUse s < Config.reportEntries)

/-- Creates a queued report with the next RC at the tail of the queue (R139, R140). -/
def queueReport (b : ReportBody) (s : State) : State :=
  { s with reports := s.reports ++ [⟨s.nextRC, b⟩], nextRC := s.nextRC + 1#16 }

/-- Takes a reservation (R141). -/
def takeReservation (s : State) : State := { s with reservations := s.reservations + 1 }

/-- Notes that the event brings an arbiter decision (R92). -/
def callArbiter (s : State) : State := { s with decisionDue := true }

/-- Returns a reservation; the freed entry brings an arbiter decision (R142, R92). -/
def returnReservation (s : State) : State :=
  callArbiter { s with reservations := s.reservations - 1 }

/-- Turns a reservation into a queued report (R142). -/
def useReservation (b : ReportBody) (s : State) : State :=
  queueReport b { s with reservations := s.reservations - 1 }

/-! ### Stream and link -/

/-- Enters HOLD from RUN: cause, HOLD_ENTRY, STREAM pending (R32). -/
def enterHold (c : HoldCause) (s : State) : State :=
  { bump .holdEntry s with stream := .hold c, streamPending := true }

/-- Enters HOLD if the stream is in RUN; in HOLD the first cause stays (R32, R41). -/
def holdIfRunning (c : HoldCause) (s : State) : State :=
  match s.stream with
  | .run => enterHold c s
  | .hold _ => s

/-- Restarts the silence timer with tSIL, unless the code is 0 (R28, R29). -/
def restartSilence (s : State) : State :=
  { s with
    silenceTimer :=
      if s.silenceCode = 0#8 then s.silenceTimer else some (10 * s.silenceCode.toNat) }

/-- What the reception of a good frame does to receiver, link and silence timer (R26, R28). -/
def frameReceived (s : State) : State :=
  restartSilence
    { s with
      rx := .hunt
      link := .live
      streamPending := s.streamPending || decide (s.link = .quiet) }

/-- Advances AC by one (R30, R34). -/
def advanceAC (s : State) : State := { s with ac := s.ac + 1#16 }

/-! ### Pool and port queues -/

/-- Replaces the queue of port `p`, returning or taking one slot for each item of difference (R1,
R2). -/
def setQueue (p : PortNo) (q : List Item) (s : State) : State :=
  { modPort p (fun x => { x with queue := q }) s with
    free := s.free + (s.port p).queue.length - q.length }

/-- Appends an item at the tail of a port queue (R8); a change of head calls the arbiter (R11). -/
def appendItem (it : Item) (s : State) (p : PortNo) : State :=
  let s' := setQueue p ((s.port p).queue ++ [it]) s
  if (s.port p).queue.isEmpty then callArbiter s' else s'

/-- Removes the head of a port queue and returns its slot (R9, R11). -/
def removeHead (p : PortNo) (s : State) : State :=
  match (s.port p).queue with
  | [] => s
  | _ :: rest => callArbiter (setQueue p rest s)

/-- Writes a settled count (R19). -/
def writeSettled (p : PortNo) (stamp : Count) (s : State) : State :=
  { modPort p (fun x => { x with settled := stamp, dirty := true }) s with progressPending := true }

/-- The head leaves as finished: its slot returns and the settled count takes its stamp (R9,
R19). -/
def settleHead (p : PortNo) (s : State) : State :=
  match (s.port p).queue with
  | [] => s
  | it :: _ => writeSettled p it.stamp (removeHead p s)

/-- Rewrites the counters of a job at the head of a port queue (R4). -/
def setHeadCounters (p : PortNo) (f : Nat → Nat → Nat × Nat) (s : State) : State :=
  match (s.port p).queue with
  | .job k st d a b :: rest => setQueue p (.job k st d (f a b).1 (f a b).2 :: rest) s
  | _ => s

/-- The head's job transaction is in flight: the record names this port and a SEND, CALL or FETCH
(R15). -/
def jobInFlight (s : State) (p : PortNo) : Bool :=
  match s.bus with
  | .sending t => t.port == p && t.kind != .poll
  | .awaiting t _ => t.port == p && t.kind != .poll
  | _ => false

/-- A scan poll is in flight (R128). -/
def pollInFlight (s : State) : Bool :=
  match s.bus with
  | .sending t => t.kind == .poll
  | .awaiting t _ => t.kind == .poll
  | _ => false

/-- Stops the busy-wait timer of a port (R105). -/
def stopBusyWait (p : PortNo) (s : State) : State :=
  modPort p (fun x => { x with busyWait := none }) s

/-- TBDIR is asserted: in SENDING, and while an abandoned character is driven (R91, R182). -/
def tbdir (s : State) : Bool :=
  match s.bus with
  | .sending _ => true
  | .quiet _ abandoned => abandoned.isSome
  | _ => false

/-- Drops the transaction record: the bus becomes IDLE, which brings an arbiter decision (R92). -/
def dropTransaction (s : State) : State := callArbiter { s with bus := .idle }

end Sys2Proof.Machine
end

