-- ==== Sys2Proof/Machine/Arbiter.lean ====
section
/-! DEFINITION. The attention scanner and the arbiter of the tributary bus (spec §5.2, chapter 7). -/

namespace Sys2Proof.Machine

/-! ### The scanner -/

/-- The condition on which a scan becomes PENDING (R129). -/
def scanDue (s : State) : Bool :=
  s.scan == .inactive && s.attn && s.scanEnable && !s.alternation &&
    allPorts.any fun p => (s.port p).listens

/-- Evaluates R129: a scan that becomes PENDING brings an arbiter decision (R92). -/
def evalScan (s : State) : State :=
  if scanDue s then callArbiter { s with scan := .pending } else s

/-- The port a RUNNING scan polls next: the lowest at or above the next index that is not CLOSED and
has listen yes (R130). -/
def nextPollPort (s : State) : Option PortNo :=
  allPorts.find? fun p => decide (s.nextIndex ≤ p.val) && (s.port p).listens

/-- The scan goes INACTIVE with next index 0 and the alternation flag at `flag` (R134, R135). -/
def stopScan (flag : Bool) (s : State) : State :=
  { s with scan := .inactive, nextIndex := 0, alternation := flag }

/-- A PENDING scan offered the bus becomes RUNNING with next index 0 (R130). -/
def runPending (s : State) : State :=
  if s.scan = .pending then { s with scan := .running, nextIndex := 0 } else s

/-- What a write of the scan enable does to the scan (R135). Turning it off stops a scan unless a
poll is in flight; the value already held changes nothing. A change brings an arbiter decision
(R92). -/
def writeScanEnable (on : Bool) (s : State) : State :=
  if on = s.scanEnable then s
  else
    callArbiter
      (if on || (s.scan == .running && pollInFlight s) then { s with scanEnable := on }
      else stopScan false { s with scanEnable := on })

/-- The scanner acts on the outcome of a poll: with the enable off the scan stops (R135). -/
def afterPoll (s : State) : State := if s.scanEnable then s else stopScan false s

/-! ### Starting transactions -/

/-- The bus becomes SENDING for a transaction; a tributary frame partly received is dropped
(R90, R91). -/
def startSending (k : TxnKind) (p : PortNo) (s : State) : State :=
  { s with
    bus := .sending ⟨k, p, (s.port p).params.address, (s.port p).params.replyTimeout⟩
    tribRx := .hunt }

/-- Starts the poll a scan names, with its reservation (R97, R131). -/
def startPoll (p : PortNo) (s : State) : State :=
  takeReservation (startSending .poll p { s with nextIndex := p.val + 1 })

/-- Moves the round-robin pointer of the port's class past it (R95). -/
def movePointer (p : PortNo) (s : State) : State :=
  if isYes (s.port p).params.urgent then { s with urgentPtr := p + 1 }
  else { s with normalPtr := p + 1 }

/-- Starts the job at the head of a port; a CALL or FETCH takes a reservation (R97, R98, R100). The
started job clears the alternation flag (R134). -/
def startJob (k : JobKind) (p : PortNo) (s : State) : State :=
  let s' := { movePointer p (startSending (.job k) p s) with alternation := false }
  if k = .send then s' else takeReservation s'

/-- The kind of a port's eligible head, if it has one (R94). -/
def eligibleHead (s : State) (p : PortNo) : Option JobKind :=
  match (s.port p).state, (s.port p).queue with
  | .opened, .job k _ _ _ _ :: _ | .closing _, .job k _ _ _ _ :: _ =>
      if (s.port p).busyWait.isNone && (k == .send || entryFree s) then some k else none
  | _, _ => none

/-- The search order of a class: ascending from its pointer, wrapping from 15 to 0 (R93). -/
def searchOrder (ptr : PortNo) : List PortNo := allPorts.map fun i => ptr + i

/-- The first port of a class, from its pointer, with an eligible head (R93, steps 2 and 3). -/
def findHead (urgent : Bool) (s : State) : Option PortNo :=
  (searchOrder (if urgent then s.urgentPtr else s.normalPtr)).find? fun p =>
    isYes (s.port p).params.urgent == urgent && (eligibleHead s p).isSome

/-- Steps 2 to 4 of a decision. Step 4 tells the scanner that the bus stayed IDLE, which clears the
alternation flag and may make a scan PENDING at once (R93, R134). -/
def offerJobs (s : State) : State :=
  match (findHead true s).or (findHead false s) with
  | some p =>
      match eligibleHead s p with
      | some k => startJob k p s
      | none => s
  | none => evalScan { s with alternation := false }

/-- One pass of a decision from step 1 (R93, R130, R134). -/
def decisionPass (s : State) : State :=
  let s' := runPending s
  if s'.scan = .running then
    match nextPollPort s' with
    | some p => if entryFree s' then startPoll p s' else offerJobs s'
    | none => offerJobs (stopScan true s')
  else offerJobs s'

/-- An arbiter decision: a scan that becomes PENDING within it returns it to step 1, once
(R92, R93, R134). -/
def decision (s : State) : State :=
  let s' := decisionPass s
  if s'.scan = .pending && s'.bus == .idle then decisionPass s' else s'

/-- The decision of an event: taken when the bus is IDLE and something has called for it (R92). -/
def arbitrate (s : State) : State :=
  if s.decisionDue && s.bus == .idle then decision s else s

end Sys2Proof.Machine
end

