-- ==== Sys2Proof/Machine/Flags.lean ====
section
/-! DEFINITION. The congestion flags and the pool-low flag, evaluated at the end of an event against
their values before it (R5, R13). -/

namespace Sys2Proof.Machine

/-- The congestion flag a port's occupancy calls for (R13). -/
def congestionOf (p : Port) : Bool :=
  if p.params.highMark.toNat ≤ p.queue.length then true
  else if p.queue.length ≤ p.params.lowMark.toNat then false
  else p.congested

/-- Evaluates the congestion flag of one port if the event changed its occupancy, and marks FLOW if
the flag differs from its value before the event (R13). The flag of a CLOSED port stays clear
(R14). -/
def evalCongestion (before : State) (s : State) (p : PortNo) : State :=
  if (s.port p).queue.length = (before.port p).queue.length ∨ (s.port p).state = .closed then s
  else
    { modPort p (fun x => { x with congested := congestionOf x }) s with
      flowPending := s.flowPending || (congestionOf (s.port p) != (before.port p).congested) }

/-- Evaluates the pool-low flag if the event changed the free count or the reserve, and marks FLOW if
the flag differs from its value before the event (R5, R6). -/
def evalPoolLow (before : State) (s : State) : State :=
  if s.free = before.free ∧ s.poolReserve = before.poolReserve then s
  else
    { s with
      poolLow := decide (s.free ≤ s.poolReserve.toNat)
      flowPending := s.flowPending || (decide (s.free ≤ s.poolReserve.toNat) != before.poolLow) }

/-- Runs the part `f` of an event and then evaluates every flag (R5, R13). -/
def withFlags (f : State → State) (s : State) : State :=
  evalPoolLow s (allPorts.foldl (evalCongestion s) (f s))

end Sys2Proof.Machine
end

