-- ==== Sys2Proof/Machine/Fences.lean ====
section
/-! DEFINITION. The Fence Table: placing, arrival, release and break (spec chapter 6). -/

namespace Sys2Proof.Machine

/-- The head of port `p` is the marker of entry `i`. -/
def headIsMarker (s : State) (i : FenceNo) (p : PortNo) : Bool :=
  match (s.port p).queue with
  | [] => false
  | it :: _ => it.isMarkerOf i

/-- Arrival at entry `i`: each member whose head is the entry's marker joins the arrived set
(R115). -/
def arriveAt (s : State) (i : FenceNo) : State :=
  match s.fence i with
  | .free => s
  | .gathering g =>
      setFence i
        (.gathering
          { g with
            arrived :=
              g.arrived ||| portSetOf fun p => g.members.getLsbD p.val && headIsMarker s i p })
        s

/-- Arrival at every entry (R115). -/
def arrive (s : State) : State := allFences.foldl arriveAt s

/-- One member of a released fence: its marker leaves the head, and its settled count takes the
fence stamp (R117). -/
def releaseMember (i : FenceNo) (stamp : Count) (s : State) (p : PortNo) : State :=
  writeSettled p stamp (if headIsMarker s i p then removeHead p s else s)

/-- Releases entry `i` (R117). -/
def releaseFence (i : FenceNo) (s : State) : State :=
  match s.fence i with
  | .free => s
  | .gathering g =>
      setFence i .free
        (useReservation (.fence g.stamp g.members .released)
          ((members g.members).foldl (releaseMember i g.stamp) s))

/-- The entry is GATHERING and every member has arrived (R115). -/
def fenceComplete (s : State) (i : FenceNo) : Bool :=
  match s.fence i with
  | .free => false
  | .gathering g => g.arrived == g.members

/-- Evaluates arrival and releases the lowest-numbered complete entry, until none is complete
(R118). `n` bounds the rounds. -/
def releaseRounds : Nat → State → State
  | 0, s => s
  | n + 1, s =>
      match allFences.find? (fenceComplete (arrive s)) with
      | none => arrive s
      | some i => releaseRounds n (releaseFence i (arrive s))

/-- All releases of an event: four entries, so at most four releases, and the arrivals after the
last (R118). -/
def settleFences (s : State) : State := releaseRounds 5 s

/-- Removes the marker of entry `i` from a port queue, wherever it stands (R20). -/
def removeMarker (i : FenceNo) (s : State) (p : PortNo) : State :=
  let s' := setQueue p ((s.port p).queue.filter fun it => !it.isMarkerOf i) s
  if headIsMarker s i p then callArbiter s' else s'

/-- Breaks entry `i` with breaking port `p` (R121). -/
def breakFence (p : PortNo) (reason : BreakReason) (s : State) (i : FenceNo) : State :=
  match s.fence i with
  | .free => s
  | .gathering g =>
      setFence i .free
        (((members g.members).filter fun q => q != p).foldl (removeMarker i)
          (useReservation (.fence g.stamp g.members (.broken p reason)) s))

/-- The lowest-numbered FREE entry (R116). -/
def freeFence (s : State) : Option FenceNo := allFences.find? fun i => s.fence i == .free

/-- Places an admitted fence: entry, reservation, one marker per member in ascending port order,
then arrival and any release (R116). -/
def placeFence (stamp : Count) (m : PortSet) (s : State) : State :=
  match freeFence s with
  | none => s
  | some i =>
      settleFences
        ((members m).foldl (appendItem (.marker stamp i))
          (takeReservation (setFence i (.gathering ⟨stamp, m, 0#16⟩) s)))

end Sys2Proof.Machine
end

