-- ==== Sys2Proof/Machine/Ports.lean ====
section
/-! DEFINITION. The Port Controller: whole-queue discard, closing, opening, faults and TEND (spec
chapter 4 and §1.5). -/

namespace Sys2Proof.Machine

/-! ### Whole-queue discard -/

/-- The items a discard removes: all but an in-flight head (R15). -/
def discarded (s : State) (p : PortNo) : List Item :=
  if jobInFlight s p then (s.port p).queue.drop 1 else (s.port p).queue

/-- The items a discard keeps: the in-flight head (R15, R16). -/
def kept (s : State) (p : PortNo) : List Item :=
  if jobInFlight s p then (s.port p).queue.take 1 else []

/-- Empties the queue but for an in-flight head, returning the slots (R15, step 1). -/
def emptyQueue (p : PortNo) (s : State) : State :=
  let s' := setQueue p (kept s p) s
  if (kept s p).isEmpty && !(s.port p).queue.isEmpty then callArbiter s' else s'

/-- The whole-queue discard: empties the queue and breaks the fences whose markers it removed,
lowest index first (R15, R18, R120). -/
def discardQueue (p : PortNo) (reason : BreakReason) (s : State) : State :=
  (allFences.filter fun i => (discarded s p).any (Item.isMarkerOf i)).foldl (breakFence p reason)
    (emptyQueue p s)

/-- The stamp of the tail-most item removed, absent when none was (R15, step 2). -/
def lastDiscarded (s : State) (p : PortNo) : Option Count :=
  (discarded s p).getLast?.map Item.stamp

/-- Adds a discard's result to a close's: the count grows, and the later stamp stands (R75, R81). -/
def addDiscard (n : Nat) (last : Option Count) (c : Closing) : Closing :=
  { c with count := c.count + n, last := last.or c.last }

/-- Changes the close record of a CLOSING port (R68). -/
def modClosing (p : PortNo) (f : Closing → Closing) (s : State) : State :=
  match (s.port p).state with
  | .closing c => setPortState p (.closing (f c)) s
  | _ => s

/-- A discard whose result goes into the close of the port (R73, R74, R75, R81). -/
def discardForClose (p : PortNo) (reason : BreakReason) (s : State) : State :=
  modClosing p (addDiscard (discarded s p).length (lastDiscarded s p)) (discardQueue p reason s)

/-! ### Reaching CLOSED -/

/-- A CLOSING port reaches CLOSED: the binding goes, the busy wait stops, the congestion flag clears
with FLOW marked if it was set, and the reservation becomes the CLOSED report (R78). -/
def closePort (p : PortNo) (cause : ClosedCause) (s : State) : State :=
  match (s.port p).state with
  | .closing c =>
      useReservation (.closed p c.stamp cause c.count c.last)
        { modPort p (fun x => { x with state := .closed, busyWait := none, congested := false }) s
          with flowPending := s.flowPending || (s.port p).congested }
  | _ => s

/-- The CLOSED cause of a close that runs its own course (R72, R73, R76, R77). -/
def causeOfMode : CloseMode → ClosedCause
  | .finish => .finished
  | .discard => .discarded

/-- Closes a CLOSING port whose queue is empty with no transaction of it in flight (R72, R73, R75,
R76, R77). `special` names a port that closes with another cause (R74, R81). -/
def closeIfDone (special : Option (PortNo × ClosedCause)) (s : State) (p : PortNo) : State :=
  match (s.port p).state with
  | .closing c =>
      if (s.port p).queue.isEmpty && !jobInFlight s p then
        match special with
        | some (q, cause) => closePort p (if q = p then cause else causeOfMode c.mode) s
        | none => closePort p (causeOfMode c.mode) s
      else s
  | _ => s

/-- Every port that reaches CLOSED in the event, in ascending port order (R122). -/
def closeDonePorts (special : Option (PortNo × ClosedCause)) (s : State) : State :=
  allPorts.foldl (closeIfDone special) s

/-- What follows a change of heads within an event: releases, then closes (R118, R122). -/
def afterHeads (special : Option (PortNo × ClosedCause)) (s : State) : State :=
  closeDonePorts special (settleFences s)

/-! ### OPEN and CLOSE -/

/-- Opens a CLOSED port: parameters, binding, state, settled count (R71). -/
def openPort (p : PortNo) (stamp : Count) (params : OpenParams) (s : State) : State :=
  writeSettled p stamp
    (modPort p (fun x => { x with state := .opened, params := params, busyWait := none }) s)

/-- The close of an OPEN or FAULTED port begins: the entry taken at admission is held and the close
record starts with no item discarded (R66, R72, R73). -/
def beginClose (p : PortNo) (mode : CloseMode) (stamp : Count) (s : State) : State :=
  setPortState p (.closing ⟨mode, stamp, 0, none⟩) (takeReservation s)

/-- An accepted CLOSE takes effect under the state of its port (R72 to R75). -/
def closeEffect (p : PortNo) (mode : CloseMode) (stamp : Count) (s : State) : State :=
  match (s.port p).state, mode with
  | .opened, .finish => closeDonePorts none (beginClose p .finish stamp s)
  | .opened, .discard =>
      afterHeads none
        (stopBusyWait p (discardForClose p .closeDiscard (beginClose p .discard stamp s)))
  | .faulted _, _ =>
      afterHeads (some (p, .closedFaulted))
        (discardForClose p .closedFaulted (beginClose p .discard stamp s))
  | .closing _, .discard =>
      afterHeads none
        (stopBusyWait p
          (discardForClose p .closeDiscard (modClosing p (fun c => { c with mode := .discard }) s)))
  | _, _ => s

/-! ### TEND -/

/-- The actions of TEND (R84). -/
inductive TendAction where
  | retry
  | skip
  | flush
  deriving DecidableEq, Repr

/-- The action of an action code (R84). -/
def tendActionOf (b : Byte) : Option TendAction :=
  if b = 0#8 then some .retry else if b = 1#8 then some .skip else if b = 2#8 then some .flush
  else none

/-- A TEND that acts: the port becomes OPEN, its action is carried out, and the port is handed to
the dispatcher (R84 to R87). -/
def tendEffect (p : PortNo) (a : TendAction) (s : State) : State :=
  callArbiter
    (match a with
    | .retry => setHeadCounters p (fun _ _ => (0, 0)) (setPortState p .opened s)
    | .skip => afterHeads none (settleHead p (setPortState p .opened s))
    | .flush => afterHeads none (discardQueue p .flush (setPortState p .opened s)))

/-- A TEND frame acts on a FAULTED port with a known action, the flags being evaluated after it, and
is otherwise MISDIRECTED with nothing else changed (R84). -/
def tend (port action : Byte) (s : State) : State :=
  match portOfByte port, tendActionOf action with
  | some p, some a =>
      match (s.port p).state with
      | .faulted _ => withFlags (tendEffect p a) s
      | _ => bump .misdirected s
  | _, _ => bump .misdirected s

/-! ### Outcomes of a job under the state of its port (R110) -/

/-- A finishing outcome: the head settles; a close it ends closes (R9, R76, R77, R110). -/
def jobFinishes (p : PortNo) (s : State) : State := afterHeads none (settleHead p s)

/-- A retry left or a tolerated BUSY: the job waits at the head, but a port CLOSING in DISCARD mode
removes it as a discard and closes (R76, R110). -/
def jobWaits (p : PortNo) (s : State) : State :=
  match (s.port p).state, (s.port p).queue with
  | .closing ⟨.discard, _, _, _⟩, it :: _ =>
      closeDonePorts none
        (modClosing p (fun c => { c with count := c.count + 1, last := c.last.or (some it.stamp) })
          (removeHead p s))
  | _, _ => s

/-- A failure under the state of the port: FAULTED if it was OPEN, the failure path of a close if it
was CLOSING (R80, R81). -/
def jobFailsPort (p : PortNo) (cause : FaultCause) (s : State) : State :=
  match (s.port p).state with
  | .opened => setPortState p (.faulted cause) s
  | .closing _ =>
      afterHeads (some (p, .failedWhileClosing))
        (discardForClose p .failedWhileClosing (removeHead p s))
  | _ => s

end Sys2Proof.Machine
end

