-- ==== Sys2Proof/Machine/Admission.lean ====
section
/-! DEFINITION. Admission of counted frames: the checks of each type in their order, and the three
outcomes (spec chapter 3). -/

namespace Sys2Proof.Machine

/-- The outcome the checks of a frame decide (R49, R50). -/
inductive Verdict where
  | accept
  | reject (reason : RejectReason)
  | refuse (detail : NoRoom)
  deriving DecidableEq, Repr

/-- Checks of SEND, CALL and FETCH (R55). -/
def jobVerdict (port : Byte) (s : State) : Verdict :=
  match portOfByte port with
  | none => .reject .badPort
  | some p =>
      if !(s.port p).admits then .reject .notOpen
      else if (s.port p).params.quota.toNat ≤ (s.port p).queue.length then .refuse .quota
      else if s.free = 0 then .refuse .pool
      else .accept

/-- Checks of FENCE (R58). -/
def fenceVerdict (m : PortSet) (s : State) : Verdict :=
  if (members m).length < 2 || (members m).any (fun p => !(s.port p).admits) then
    .reject .badMembers
  else if (freeFence s).isNone then .refuse .fenceTable
  else if (members m).any fun p =>
      decide ((s.port p).params.quota.toNat ≤ (s.port p).queue.length) then .refuse .quota
  else if s.free < (members m).length then .refuse .pool
  else if !entryFree s then .refuse .reports
  else .accept

/-- Checks of MARK (R59). -/
def markVerdict (echo : Byte) (s : State) : Verdict :=
  if !isCode01 echo then .reject .badParam
  else if isYes echo && !entryFree s then .refuse .reports
  else .accept

/-- The address is bound to a port other than `p` (R63, R64). -/
def addressTaken (p : PortNo) (a : Byte) (s : State) : Bool :=
  allPorts.any fun q => q != p && (s.port q).bound == some a

/-- Checks of OPEN (R63). -/
def openVerdict (port : Byte) (params : OpenParams) (s : State) : Verdict :=
  match portOfByte port with
  | none => .reject .badPort
  | some p =>
      if (s.port p).state ≠ .closed then .reject .notClosed
      else if !paramsInRange params then .reject .badParam
      else if addressTaken p params.address s then .reject .addrTaken
      else .accept

/-- The mode of a mode code (R54). -/
def closeModeOf (b : Byte) : Option CloseMode :=
  if b = 0#8 then some .finish else if b = 1#8 then some .discard else none

/-- The state table of R65. -/
def closeDecision (st : PortState) (mode : CloseMode) (room : Bool) : Verdict :=
  match st, mode with
  | .opened, _ | .faulted _, _ => if room then .accept else .refuse .reports
  | .closing c, .discard => if c.mode = .finish then .accept else .reject .notOpen
  | .closing _, .finish | .closed, _ => .reject .notOpen

/-- Checks of CLOSE (R65). -/
def closeVerdict (port mode : Byte) (s : State) : Verdict :=
  match portOfByte port, closeModeOf mode with
  | none, _ => .reject .badPort
  | some _, none => .reject .badParam
  | some p, some md => closeDecision (s.port p).state md (entryFree s)

/-- Checks of SETUP (R61). -/
def setupVerdict (reserve scanEnable : Byte) : Verdict :=
  if reserve.toNat ≤ 95 && isCode01 scanEnable then .accept else .reject .badParam

/-- The admitted SETUP writes the silence code, restarting or stopping the timer (R29), the pool
reserve (R6) and the scan enable (R135). -/
def setupEffect (code reserve scanEnable : Byte) (s : State) : State :=
  writeScanEnable (isYes scanEnable)
    { s with
      silenceCode := code
      silenceTimer :=
        if code = 0#8 then none
        else if s.link = .live then some (10 * code.toNat) else s.silenceTimer
      poolReserve := reserve }

/-- The effect of an admitted frame on a port it names. -/
def onPort (port : Byte) (f : PortNo → State → State) (s : State) : State :=
  match portOfByte port with
  | none => s
  | some p => f p s

/-- The job an admitted frame creates joins the tail of its port (R56). -/
def jobEffect (k : JobKind) (stamp : Count) (port : Byte) (data : List Byte) (s : State) : State :=
  onPort port (fun p s => appendItem (.job k stamp data 0 0) s p) s

/-- The admitted MARK queues its ECHO (R60). -/
def markEffect (stamp : Count) (echo : Byte) (s : State) : State :=
  if isYes echo then queueReport (.echo stamp) s else s

/-- The admitted CLOSE is handed to the Port Controller (R65, R66). -/
def closeFrameEffect (stamp : Count) (port mode : Byte) (s : State) : State :=
  match closeModeOf mode with
  | none => s
  | some md => onPort port (fun p s => closeEffect p md stamp s) s

/-- The admission event: admitted, rejected with a REJECT report, or refused with HOLD(NO_ROOM).
A rejection that finds no free report entry is refused with REPORTS (R34, R49, R51). -/
def admission (stamp : Count) (frameType : Byte) (v : Verdict) (effect : State → State)
    (s : State) : State :=
  match v with
  | .accept => advanceAC (withFlags effect s)
  | .reject r =>
      if entryFree s then advanceAC (queueReport (.reject stamp frameType r) s)
      else enterHold (.noRoom .reports) s
  | .refuse d => enterHold (.noRoom d) s

/-- A structurally sound counted frame: discarded in HOLD (R40); in RUN a duplicate (R35), a gap
(R36), or admitted, rejected or refused (R34). -/
def counted (stamp : Count) (frameType : Byte) (verdict : State → Verdict)
    (effect : State → State) (s : State) : State :=
  match s.stream with
  | .hold _ => { bump .heldDiscard s with streamPending := true }
  | .run =>
      if stamp = s.ac then admission stamp frameType (verdict s) effect s
      else if behind stamp s.ac then bump .duplicate s
      else enterHold .gap s

end Sys2Proof.Machine
end

