-- ==== Sys2Proof/Machine/Transmitter.lean ====
section
/-! DEFINITION. The uplink transmitter: the waiting sources, the choice among them and the effect of a
frame's start (spec §8.4), with the history ring (R155). -/

namespace Sys2Proof.Machine

/-- At least one source is waiting (R150). -/
def sourceWaiting (s : State) : Bool :=
  s.streamPending || s.flowPending || s.slot.isSome || !s.reports.isEmpty || s.progressPending

/-- The set of the ports whose congestion flags are set (R145). -/
def congestedSet (s : State) : PortSet := portSetOf fun p => (s.port p).congested

/-- The entries of a PROGRESS frame: each progress-dirty port with its settled count, in ascending
port order (R146). -/
def progressEntries (s : State) : List (PortNo × Count) :=
  (allPorts.filter fun p => (s.port p).dirty).map fun p => (p, (s.port p).settled)

/-- The ring with a report added, the earliest dropped beyond sixteen (R155). -/
def addToRing (r : Report) (ring : List Report) : List Report :=
  if Config.ringSize < (ring ++ [r]).length then (ring ++ [r]).tail else ring ++ [r]

/-- A STREAM frame begins (R144, R152). -/
def beginStream (s : State) : State :=
  { s with line := .busy (.stream s.stream s.ac s.nextRC s.link), streamPending := false }

/-- A FLOW frame begins (R145, R152). -/
def beginFlow (s : State) : State :=
  { s with line := .busy (.flow (congestedSet s) s.poolLow s.free), flowPending := false }

/-- The answer slot's content begins (R148, R152). -/
def beginAnswer (a : Answer) (s : State) : State :=
  { s with line := .busy (.answer a), slot := none }

/-- The queue head begins: it leaves the queue, its entry is freed, it joins the ring, and the
freeing brings an arbiter decision (R151, R152, R155). -/
def beginReport (r : Report) (rest : List Report) (s : State) : State :=
  callArbiter
    { s with
      line := .busy (.report r)
      reports := rest
      ring := addToRing r s.ring
      turn := .queue }

/-- Clears the progress-dirty flag of a port (R21). -/
def clearDirty (s : State) (p : PortNo) : State := modPort p (fun x => { x with dirty := false }) s

/-- A PROGRESS frame begins: its entries are built, and the dirty flags of the listed ports and the
pending flag are cleared (R146, R151, R152). -/
def beginProgress (s : State) : State :=
  { (progressEntries s).foldl (fun acc e => clearDirty acc e.1) s with
    line := .busy (.progress (progressEntries s))
    progressPending := false
    turn := .progress }

/-- Step 4 of a choice: the queue head or a PROGRESS frame, turn and turn about (R151). -/
def beginQueueOrProgress (s : State) : State :=
  match s.reports with
  | [] => if s.progressPending then beginProgress s else s
  | r :: rest =>
      if s.progressPending && s.turn == .queue then beginProgress s else beginReport r rest s

/-- The transmitter's choice on a FREE line (R150). -/
def choose (s : State) : State :=
  match s.line with
  | .busy _ => s
  | .free =>
      if s.streamPending then beginStream s
      else if s.flowPending then beginFlow s
      else
        match s.slot with
        | some a => beginAnswer a s
        | none => beginQueueOrProgress s

end Sys2Proof.Machine
end

