-- ==== Sys2Proof/Machine/Event.lean ====
section
/-! DEFINITION. What ends every event: the scan condition, the transmitter's choice and the arbiter's
decision (R92, R129, R150). -/

namespace Sys2Proof.Machine

/-- The end of an event: R129 is evaluated, the transmitter chooses, the arbiter decides on the
state at the end of the event, and R129 is evaluated again for a flag the decision cleared. -/
def endEvent (s : State) : State :=
  { evalScan (arbitrate (choose (evalScan s))) with decisionDue := false }

/-- One event: its own effect `f`, then the end of the event. While RESET is held low the hub is
held, and nothing happens (R183). -/
def event (f : State → State) (s : State) : State :=
  if s.resetHeld then s else endEvent (f s)

/-- An event with a trigger, such as the expiry of a running timer: where the trigger does not stand
there is no event and nothing happens. -/
def eventIf (occurs : State → Bool) (f : State → State) (s : State) : State :=
  if occurs s then event f s else s

end Sys2Proof.Machine
end

