-- ==== Sys2Proof/Machine/Inquiry.lean ====
section
/-! DEFINITION. The Inquiry and Tally Bank and RECALL: what is placed in the answer slot (spec chapter
9, §8.3, §8.5). -/

namespace Sys2Proof.Machine

/-- The bus as a HUB answer shows it (R165). -/
def busView : Bus → BusView
  | .idle => .idle
  | .sending t => .sending t.kind t.port
  | .awaiting t _ => .awaiting t.kind t.port
  | .quiet _ _ => .quiet

/-- The snapshot of a HUB answer (R165). -/
def hubView (s : State) : HubView :=
  { stream := s.stream, ac := s.ac, link := s.link, silenceCode := s.silenceCode,
    poolReserve := s.poolReserve, scanEnable := s.scanEnable, free := s.free,
    poolLow := s.poolLow, nextRC := s.nextRC, unsent := s.reports.length,
    reservations := s.reservations, ringCount := s.ring.length, fences := s.fences,
    scan := s.scan, bus := busView s.bus }

/-- The head of a queue as a PORT answer shows it (R166). -/
def headView : List Item → HeadView
  | [] => .none
  | .job k st _ a b :: _ => .job k st a b
  | .marker st i :: _ => .marker st i

/-- The snapshot of a PORT answer (R166). -/
def portView (p : PortNo) (s : State) : PortView :=
  { port := p, state := (s.port p).state, params := (s.port p).params,
    bound := (s.port p).bound.isSome, occupancy := (s.port p).queue.length,
    congested := (s.port p).congested, settled := (s.port p).settled, dirty := (s.port p).dirty,
    busyWaiting := (s.port p).busyWait.isSome, inFlight := jobInFlight s p,
    head := headView (s.port p).queue }

/-- An item as a QUEUE answer shows it (R168). -/
def itemView : Item → ItemView
  | .job k st _ _ _ => ⟨some k, st⟩
  | .marker st _ => ⟨none, st⟩

/-- The window of a QUEUE answer: at most 16 items from the start position (R168). -/
def queueAnswer (tag : Byte) (p : PortNo) (start : Byte) (s : State) : Answer :=
  .queue tag p start (s.port p).queue.length
    ((((s.port p).queue.drop start.toNat).take Config.queueWindow).map itemView)

/-- Places an answer in the slot (R148). -/
def placeAnswer (a : Answer) (s : State) : State := { s with slot := some a }

/-- Every tally set to 0 (R171). -/
def clearTallies (s : State) : State := { s with tallies := Vector.replicate 15 0 }

/-- The five query kinds (R161). -/
inductive QueryKind where
  | hub
  | port
  | queue
  | tally
  | ident
  deriving DecidableEq, Repr

/-- The kind of a kind code (R161). -/
def queryKindOf (b : Byte) : Option QueryKind :=
  if b = 1#8 then some .hub
  else if b = 2#8 then some .port
  else if b = 3#8 then some .queue
  else if b = 4#8 then some .tally
  else if b = 5#8 then some .ident
  else none

/-- A QUERY that finds the slot empty (R161, R162, R165 to R171). -/
def answerQuery (tag kind argHi argLo : Byte) (s : State) : State :=
  match queryKindOf kind with
  | some .hub => placeAnswer (.hub tag (hubView s)) s
  | some .port =>
      match portOfByte argHi with
      | some p => placeAnswer (.port tag (portView p s)) s
      | none => placeAnswer (.badQuery tag kind argHi argLo) s
  | some .queue =>
      match portOfByte argHi with
      | some p => placeAnswer (queueAnswer tag p argLo s) s
      | none => placeAnswer (.badQuery tag kind argHi argLo) s
  | some .tally =>
      if argLo = 0#8 then placeAnswer (.tally tag argLo s.tallies) s
      else if argLo = 1#8 then clearTallies (placeAnswer (.tally tag argLo s.tallies) s)
      else placeAnswer (.badQuery tag kind argHi argLo) s
  | some .ident => placeAnswer (.ident tag) s
  | none => placeAnswer (.badQuery tag kind argHi argLo) s

/-- A frame that asks for the answer slot is discarded with ANSWER_OVERRUN while it is occupied
(R148). -/
def forSlot (f : State → State) (s : State) : State :=
  if s.slot.isSome then bump .answerOverrun s else f s

/-- The oldest and newest RCs of the ring, absent when it is empty (R157). -/
def ringBounds (ring : List Report) : Option (Count × Count) :=
  match ring.head?, ring.getLast? with
  | some a, some b => some (a.rc, b.rc)
  | _, _ => none

/-- A RECALL that finds the slot empty: a repeat copy, or a RECALL_MISS answer (R156, R157). -/
def answerRecall (rc : Count) (s : State) : State :=
  match s.ring.find? (fun r => r.rc == rc) with
  | some r => placeAnswer (.recallCopy r) s
  | none => bump .recallMiss (placeAnswer (.recallMiss rc (ringBounds s.ring) s.nextRC) s)

end Sys2Proof.Machine
end

