-- ==== Sys2Proof/Machine/Layout.lean ====
section
/-! DEFINITION. The bytes of report frames and tributary frames: field codes and layouts (spec §10.4
to §10.6). An absent field is sent as 00h (R174). -/

namespace Sys2Proof.Machine

/-! ### Field codes (R180) -/

/-- Flags and yes/no fields (R180). -/
def flagByte (b : Bool) : Byte := if b then 1#8 else 0#8

/-- Stream state, hold cause and NO_ROOM detail (R180). -/
def noRoomCode : NoRoom → Byte
  | .pool => 1#8
  | .quota => 2#8
  | .fenceTable => 3#8
  | .reports => 4#8

/-- The three stream bytes: state, hold cause, NO_ROOM detail (R179, R180). -/
def streamBytes : StreamState → List Byte
  | .run => [0#8, 0#8, 0#8]
  | .hold .restarted => [1#8, 1#8, 0#8]
  | .hold .check => [1#8, 2#8, 0#8]
  | .hold .malformed => [1#8, 3#8, 0#8]
  | .hold .gap => [1#8, 4#8, 0#8]
  | .hold (.noRoom d) => [1#8, 5#8, noRoomCode d]
  | .hold .silence => [1#8, 6#8, 0#8]

/-- Link state code (R180). -/
def linkCode : Link → Byte
  | .quiet => 0#8
  | .live => 1#8

/-- The fault cause byte and the refusal code it governs (R180). -/
def faultBytes : FaultCause → List Byte
  | .noReply => [1#8, 0#8]
  | .badReply => [2#8, 0#8]
  | .refused code => [3#8, code]
  | .busyLimit => [4#8, 0#8]

/-- Break reason code (R180). -/
def breakCode : BreakReason → Byte
  | .flush => 1#8
  | .closeDiscard => 2#8
  | .closedFaulted => 3#8
  | .failedWhileClosing => 4#8

/-- REJECT reason code (R180). -/
def rejectCode : RejectReason → Byte
  | .notOpen => 1#8
  | .notClosed => 2#8
  | .badPort => 3#8
  | .badParam => 4#8
  | .addrTaken => 5#8
  | .badMembers => 6#8

/-- CLOSED cause code (R180). -/
def closedCode : ClosedCause → Byte
  | .finished => 1#8
  | .discarded => 2#8
  | .closedFaulted => 3#8
  | .failedWhileClosing => 4#8

/-- Close mode code (R180). -/
def closeModeCode : CloseMode → Byte
  | .finish => 0#8
  | .discard => 1#8

/-- Port state code (R180). -/
def portStateCode : PortState → Byte
  | .closed => 0#8
  | .opened => 1#8
  | .faulted _ => 2#8
  | .closing _ => 3#8

/-- Scan state code (R180). -/
def scanCode : ScanState → Byte
  | .inactive => 0#8
  | .pending => 1#8
  | .running => 2#8

/-- In-flight kind code (R180). -/
def txnCode : TxnKind → Byte
  | .job k => k.code
  | .poll => 3#8

/-- A port number as a byte. -/
def portByte (p : PortNo) : Byte := byteOf p.val

/-- A 16-bit field that may be absent (R174). -/
def optBytes16 (c : Option Count) : List Byte := bytes16 (c.getD 0#16)

/-! ### Queued reports (R178) -/

/-- The kind code of a queued report (R178). -/
def ReportBody.code : ReportBody → Byte
  | .reply _ _ _ => 0x61#8
  | .fault _ _ _ _ _ _ => 0x62#8
  | .event _ _ _ => 0x63#8
  | .fence _ _ _ => 0x64#8
  | .reject _ _ _ => 0x65#8
  | .closed _ _ _ _ _ => 0x66#8
  | .echo _ => 0x67#8

/-- The fields of a queued report after flags and RC (R178). -/
def ReportBody.bytes : ReportBody → List Byte
  | .reply p st d => portByte p :: (bytes16 st ++ d)
  | .fault p st k c a cl =>
      portByte p :: (bytes16 st ++ k.code :: (faultBytes c).take 1 ++ byteOf a ::
        (faultBytes c).drop 1 ++ [flagByte cl])
  | .event p a d => portByte p :: a :: d
  | .fence st m .released => bytes16 st ++ bytes16 m ++ [0#8, 0#8, 0#8]
  | .fence st m (.broken p r) => bytes16 st ++ bytes16 m ++ [1#8, portByte p, breakCode r]
  | .reject st ty r => bytes16 st ++ [ty, rejectCode r]
  | .closed p st c n last =>
      portByte p :: (bytes16 st ++ closedCode c :: byteOf n :: optBytes16 last)
  | .echo st => bytes16 st

/-- TYPE and body of a queued report: kind, flags byte, RC, fields (R143, R178). -/
def Report.frameBody (repeatCopy : Bool) (r : Report) : List Byte :=
  r.body.code :: flagByte repeatCopy :: (bytes16 r.rc ++ r.body.bytes)

/-! ### Answers (R179) -/

/-- A fence entry in a HUB answer: state, stamp, member set, arrived set (R179). -/
def fenceEntryBytes : FenceEntry → List Byte
  | .free => [0#8, 0#8, 0#8, 0#8, 0#8, 0#8, 0#8]
  | .gathering g => 1#8 :: (bytes16 g.stamp ++ bytes16 g.members ++ bytes16 g.arrived)

/-- Bus state, in-flight kind and in-flight port (R179). -/
def busBytes : BusView → List Byte
  | .idle => [0#8, 0#8, 0#8]
  | .sending k p => [1#8, txnCode k, portByte p]
  | .awaiting k p => [2#8, txnCode k, portByte p]
  | .quiet => [3#8, 0#8, 0#8]

/-- The 48 content bytes of a HUB answer (R179). -/
def HubView.bytes (v : HubView) : List Byte :=
  streamBytes v.stream ++ bytes16 v.ac ++ [linkCode v.link, v.silenceCode, v.poolReserve,
    flagByte v.scanEnable, byteOf v.free, flagByte v.poolLow] ++ bytes16 v.nextRC ++
  [byteOf v.unsent, byteOf v.reservations, byteOf v.ringCount] ++
  allFences.flatMap (fun i => fenceEntryBytes (v.fences[i])) ++
  scanCode v.scan :: busBytes v.bus

/-- Head kind, stamp, fence index, attempts and busy count (R179). -/
def HeadView.bytes : HeadView → List Byte
  | .none => [0#8, 0#8, 0#8, 0#8, 0#8, 0#8]
  | .job k st a b => k.code :: (bytes16 st ++ [0#8, byteOf a, byteOf b])
  | .marker st i => 0x24#8 :: (bytes16 st ++ [byteOf i.val, 0#8, 0#8])

/-- Close mode, close stamp, discarded so far, last discarded stamp, fault cause and refusal code
(R179). -/
def portStateBytes : PortState → List Byte
  | .closing c =>
      closeModeCode c.mode :: (bytes16 c.stamp ++ byteOf c.count :: optBytes16 c.last) ++ [0#8, 0#8]
  | .faulted f => [0#8, 0#8, 0#8, 0#8, 0#8, 0#8] ++ faultBytes f
  | _ => [0#8, 0#8, 0#8, 0#8, 0#8, 0#8, 0#8, 0#8]

/-- The 34 content bytes of a PORT answer (R179). -/
def PortView.bytes (v : PortView) : List Byte :=
  portByte v.port :: portStateCode v.state :: (v.params.bytes ++
    [flagByte v.bound, byteOf v.occupancy, flagByte v.congested] ++ bytes16 v.settled ++
    [flagByte v.dirty, flagByte v.busyWaiting, flagByte v.inFlight] ++ v.head.bytes ++
    portStateBytes v.state)

/-- An item of a QUEUE answer: kind and stamp (R179, R180). -/
def ItemView.bytes (v : ItemView) : List Byte :=
  (match v.kind with
  | some k => k.code
  | none => 0x24#8) :: bytes16 v.stamp

/-- The bytes after TYPE of an answer's frame (R179). -/
def answerBytes : Answer → List Byte
  | .hub tag v => 1#8 :: tag :: v.bytes
  | .port tag v => 2#8 :: tag :: v.bytes
  | .queue tag p start total items =>
      3#8 :: tag :: portByte p :: start :: byteOf total :: byteOf items.length ::
        items.flatMap ItemView.bytes
  | .tally tag clear values => 4#8 :: tag :: clear :: values.toList.flatMap bytes16
  | .ident tag => 5#8 :: tag :: Config.vendorCode :: (bytes16 Config.partCode ++ [Config.revision])
  | .badQuery tag kind argHi argLo => [0x0F#8, tag, kind, argHi, argLo]
  | .recallMiss rc none next => 0x0E#8 :: (bytes16 rc ++ [0#8, 0#8, 0#8, 0#8, 0#8] ++ bytes16 next)
  | .recallMiss rc (some (a, b)) next =>
      0x0E#8 :: (bytes16 rc ++ 1#8 :: (bytes16 a ++ bytes16 b ++ bytes16 next))
  | .recallCopy _ => []

/-- TYPE and body of the frame that carries an answer: a recall copy goes as the report it copies,
with the repeat flag set (R148, R156, R163). -/
def Answer.frameBody : Answer → List Byte
  | .recallCopy r => r.frameBody true
  | a => 0x73#8 :: answerBytes a

/-! ### Report frames -/

/-- TYPE and body of a report frame (R178, R179). -/
def TxFrame.body : TxFrame → List Byte
  | .stream st ac next link =>
      0x70#8 :: (streamBytes st ++ bytes16 ac ++ bytes16 next ++ [linkCode link])
  | .flow m low free => 0x71#8 :: (bytes16 m ++ [flagByte low, byteOf free])
  | .progress es => 0x72#8 :: es.flatMap (fun e => portByte e.1 :: bytes16 e.2)
  | .report r => r.frameBody false
  | .answer a => a.frameBody

/-- The bytes of a report frame on TXD (R174). -/
def TxFrame.bytes (f : TxFrame) : List Byte := uplinkEnvelope f.body

/-- What TXD carries: the frame in transmission, or the idle level (R149). -/
def State.txd (s : State) : Option (List Byte) :=
  match s.line with
  | .free => none
  | .busy f => some f.bytes

/-! ### Tributary frames (R181) -/

/-- The data field of the job at the head of a queue (R57). -/
def headData : List Item → List Byte
  | .job _ _ d _ _ :: _ => d
  | _ => []

/-- The frame the hub drives for a transaction: POST, COMMAND or POLL (R98, R100, R131, R181). -/
def transactionFrame (t : Transaction) (queue : List Item) : List Byte :=
  match t.kind with
  | .job .send => tribEnvelope t.address 0x02#8 (headData queue)
  | .job .call => tribEnvelope t.address 0x01#8 (headData queue)
  | .job .fetch => tribEnvelope t.address 0x01#8 (headData queue)
  | .poll => tribEnvelope t.address 0x03#8 []

/-- The tributary frame being driven onto the pair: in SENDING, and in QUIET while a character of an
abandoned frame is finished (R111, R181, R182). -/
def drivenFrame (s : State) : Option (List Byte) :=
  match s.bus with
  | .sending t => some (transactionFrame t (s.port t.port).queue)
  | .quiet _ abandoned => abandoned
  | .idle | .awaiting _ _ => none

end Sys2Proof.Machine
end

