-- ==== Sys2Proof/Machine/Reset.lean ====
section
/-! DEFINITION. What RESTART and pin reset bring every block to (R22, R45, R46, R68, R89, R111, R112,
R126, R128, R137, R159, R160, R172). -/

namespace Sys2Proof.Machine

/-- The bus after a RESTART: a transaction in flight is abandoned and the bus is QUIET for the
record's reply timeout, with a character of its frame still driven if the hub was sending (R111,
R182). -/
def abandonedBus (s : State) : Bus :=
  match s.bus with
  | .sending t => .quiet t.replyTimeout (drivenFrame s)
  | .awaiting t _ => .quiet t.replyTimeout none
  | b => b

/-- RESTART (R45, R46): HOLD_ENTRY counts if the stream was in RUN. -/
def restartEffect (s : State) : State :=
  { (match s.stream with
    | .run => bump .holdEntry s
    | .hold _ => s) with
    ac := 0
    stream := .hold .restarted
    free := Config.poolSlots
    poolLow := false
    ports := Vector.replicate 16 resetPort
    fences := Vector.replicate 4 .free
    bus := abandonedBus s
    urgentPtr := 0
    normalPtr := 0
    scan := .inactive
    nextIndex := 0
    alternation := false
    reports := []
    reservations := 0
    nextRC := 0
    ring := []
    slot := none
    streamPending := true
    flowPending := false
    progressPending := false
    turn := .progress
    decisionDue := false }

/-- The pin-reset values with the inputs (the levels of ATTN and RXD, the sampled straps), the RESET
level and the waiting commands as given. -/
def pinReset (rate : Rate) (held : Bool) (s : State) : State :=
  { State.reset with
    rxdLevel := s.rxdLevel
    rate := rate
    attn := s.attn
    resetHeld := held
    pending := s.pending }

end Sys2Proof.Machine
end

