-- ==== Sys2Proof/Machine/Uplink.lean ====
section
/-! DEFINITION. The Uplink Receiver and the Stream Accountant (spec chapter 2), and the commands of
characters, frame endings and timers of the uplink. -/

namespace Sys2Proof.Machine

/-! ### The Stream Accountant -/

/-- A RESUME that cannot be accepted (R44). -/
def refuseResume (s : State) : State := { bump .misdirected s with streamPending := true }

/-- The count a RESUME leaves AC at, if its mode and count are accepted in HOLD (R42, R43). -/
def resumeTarget (mode : Byte) (count ac : Count) : Option Count :=
  if mode = 0#8 then if count = ac then some ac else none
  else if mode = 1#8 then if rebaseRange count ac then some count else none
  else none

/-- RESUME (R42, R43, R44). -/
def resume (mode : Byte) (count : Count) (s : State) : State :=
  match s.stream, resumeTarget mode count s.ac with
  | .hold _, some c => { s with ac := c, stream := .run, streamPending := true }
  | _, _ => refuseResume s

/-- A damaged-frame notice (R37, R41). -/
def damagedNotice (s : State) : State := holdIfRunning .check (bump .checkErr s)

/-- A malformed good frame (R38, R41). -/
def malformed (s : State) : State := holdIfRunning .malformed (bump .malformed s)

/-- Serves a structurally sound frame by its type (R33, R34, R47, R48). -/
def serve (f : HostFrame) (s : State) : State :=
  match f with
  | .job k st port data => counted st k.code (jobVerdict port) (jobEffect k st port data) s
  | .fence st m => counted st 0x24#8 (fenceVerdict m) (placeFence st m) s
  | .mark st echo => counted st 0x25#8 (markVerdict echo) (markEffect st echo) s
  | .openPort st port params =>
      counted st 0x26#8 (openVerdict port params)
        (onPort port fun p s => openPort p st params s) s
  | .close st port mode =>
      counted st 0x27#8 (closeVerdict port mode) (closeFrameEffect st port mode) s
  | .setup st code reserve enable =>
      counted st 0x28#8 (fun _ => setupVerdict reserve enable) (setupEffect code reserve enable) s
  | .fill => s
  | .resume mode count => resume mode count s
  | .restart => restartEffect s
  | .tend port action => tend port action s
  | .query tag kind argHi argLo => forSlot (answerQuery tag kind argHi argLo) s
  | .recall rc => forSlot (answerRecall rc) s

/-- A good frame is received and served (R26, R28, R33). -/
def acceptFrame (f : HostFrame) (s : State) : State := serve f (frameReceived s)

/-- The good frame of these body bytes: served if it passes the structural check, and malformed
otherwise (R33). -/
def acceptBody (body : List Byte) (s : State) : State :=
  match decodeFrame body with
  | some f => acceptFrame f s
  | none => malformed (frameReceived s)

/-! ### The receiver -/

/-- The receiver returns to HUNT with no byte held and tGAP stopped. -/
def huntUplink (s : State) : State := { s with rx := .hunt }

/-- A character in HUNT: a sound C5h begins a frame, anything else is NOISE (R24). -/
def huntByte (b : Byte) (ferr : Bool) (s : State) : State :=
  if ferr || b != Config.uplinkStart then bump .noise (huntUplink s)
  else { s with rx := .inFrame [] }

/-- The second CRC byte has arrived: `bytes` holds LEN, LEN body bytes and two CRC bytes (R26). -/
def endOfFrame (len : Nat) (bytes : List Byte) (s : State) : State :=
  if bytes16 (crc16 (bytes.take (len + 1))) = bytes.drop (len + 1) then
    acceptBody ((bytes.take (len + 1)).drop 1) (huntUplink s)
  else damagedNotice (huntUplink s)

/-- A sound character joins a frame whose LEN byte and further bytes are held (R26). -/
def collectByte (len : Byte) (bytes : List Byte) (s : State) : State :=
  if bytes.length = len.toNat + 3 then endOfFrame len.toNat bytes s
  else { s with rx := .inFrame bytes }

/-- A character arrives on RXD (R24 to R27). -/
def uplinkChar (b : Byte) (ferr : Bool) (s : State) : State :=
  match s.rx with
  | .hunt => huntByte b ferr s
  | .inFrame [] =>
      if ferr || b == 0#8 || decide (Config.maxLen < b.toNat) then
        huntByte b ferr (bump .noise s)
      else { s with rx := .inFrame [b] }
  | .inFrame (len :: rest) =>
      if ferr then damagedNotice (huntUplink s) else collectByte len (len :: rest ++ [b]) s

/-- tGAP runs: the receiver is IN_FRAME (R23). -/
def tGapRuns (s : State) : Bool :=
  match s.rx with
  | .hunt => false
  | .inFrame _ => true

/-- tGAP expires: a lone START is NOISE, a frame with a LEN ends damaged (R25, R27). -/
def tGapExpires (s : State) : State :=
  match s.rx with
  | .hunt => s
  | .inFrame [] => bump .noise (huntUplink s)
  | .inFrame (_ :: _) => damagedNotice (huntUplink s)

/-- The silence timer expires (R28, R39, R41). -/
def silenceExpires (s : State) : State :=
  holdIfRunning .silence
    { s with
      link := .quiet
      silenceTimer := none
      streamPending := s.streamPending || decide (s.link = .live) }

/-! ### The commands -/

/-- A whole-frame command: the frame's last byte arrives with a good CRC. -/
def frameEvent (f : HostFrame) (s : State) : Host.Outcome State Fault Refusal :=
  .next (event (acceptFrame f) s)

/-- NOISE (R24): a character arrives on RXD. -/
def execNoise (byte : Byte) (ferr : Bool) (s : State) : Host.Outcome State Fault Refusal :=
  .next (event (uplinkChar byte ferr) s)

/-- OUT_OF_RANGE_LEN (R25): the character after a START arrives on RXD. -/
def execOutOfRangeLen (byte : Byte) (ferr : Bool) (s : State) :
    Host.Outcome State Fault Refusal :=
  .next (event (uplinkChar byte ferr) s)

/-- TGAP_EXPIRY (R25, R27). -/
def execTgapExpiry (s : State) : Host.Outcome State Fault Refusal :=
  .next (eventIf tGapRuns tGapExpires s)

/-- DAMAGED_FRAME (R26): a frame of these body bytes ends with these CRC bytes. A CRC that agrees
makes it a good frame. -/
def execDamagedFrame (body : List Byte) (crc : BitVec 16) (s : State) :
    Host.Outcome State Fault Refusal :=
  if (Instr.damagedFrame body crc).carried then
    .next
      (event
        (fun s =>
          if crc = crc16 (byteOf body.length :: body) then acceptBody body (huntUplink s)
          else damagedNotice (huntUplink s))
        s)
  else .refused .illFormed

/-- FRAMING_ERROR (R24, R25, R27): a character whose stop bit reads space arrives on RXD. -/
def execFramingError (byte : Byte) (s : State) : Host.Outcome State Fault Refusal :=
  .next (event (uplinkChar byte true) s)

/-- MALFORMED_FRAME (R38, R41): a good frame of these body bytes arrives. -/
def execMalformedFrame (body : List Byte) (s : State) : Host.Outcome State Fault Refusal :=
  if (Instr.malformedFrame body).carried then .next (event (acceptBody body) s)
  else .refused .illFormed

/-- SILENCE_TIMER_EXPIRY (R28, R39). -/
def execSilenceTimerExpiry (s : State) : Host.Outcome State Fault Refusal :=
  .next (eventIf (fun s => s.silenceTimer.isSome) silenceExpires s)

end Sys2Proof.Machine
end

