-- ==== Sys2Proof/Machine/HostFrames.lean ====
section
/-! DEFINITION. The whole-frame commands of the host: counted frames (spec chapter 3) and uncounted
frames (spec chapters 2, 4, 8, 9). -/

namespace Sys2Proof.Machine

/-! ### Counted frames -/

/-- SEND (R55, R56). -/
def execSend (stamp : Count) (port : Byte) (data : List Byte) (s : State) :
    Host.Outcome State Fault Refusal :=
  if (Instr.send stamp port data).carried then frameEvent (.job .send stamp port data) s
  else .refused .illFormed

/-- CALL (R55, R56). -/
def execCall (stamp : Count) (port : Byte) (data : List Byte) (s : State) :
    Host.Outcome State Fault Refusal :=
  if (Instr.call stamp port data).carried then frameEvent (.job .call stamp port data) s
  else .refused .illFormed

/-- FETCH (R55, R56). -/
def execFetch (stamp : Count) (port : Byte) (data : List Byte) (s : State) :
    Host.Outcome State Fault Refusal :=
  if (Instr.fetch stamp port data).carried then frameEvent (.job .fetch stamp port data) s
  else .refused .illFormed

/-- FENCE (R58, R116). -/
def execFence (stamp : Count) (m : PortSet) (s : State) : Host.Outcome State Fault Refusal :=
  frameEvent (.fence stamp m) s

/-- MARK (R59, R60). -/
def execMark (stamp : Count) (echo : Byte) (s : State) : Host.Outcome State Fault Refusal :=
  frameEvent (.mark stamp echo) s

/-- OPEN (R63, R71). -/
def execOpenPort (stamp : Count) (port : Byte) (params : OpenParams) (s : State) :
    Host.Outcome State Fault Refusal :=
  frameEvent (.openPort stamp port params) s

/-- CLOSE in FINISH mode (R65, R72, R74). -/
def execCloseFinish (stamp : Count) (port : Byte) (s : State) :
    Host.Outcome State Fault Refusal :=
  frameEvent (.close stamp port 0x00#8) s

/-- CLOSE in DISCARD mode (R65, R73, R74, R75). -/
def execCloseDiscard (stamp : Count) (port : Byte) (s : State) :
    Host.Outcome State Fault Refusal :=
  frameEvent (.close stamp port 0x01#8) s

/-- CLOSE whose mode byte is neither (R65). -/
def execCloseUnknownMode (stamp : Count) (port mode : Byte) (s : State) :
    Host.Outcome State Fault Refusal :=
  frameEvent (.close stamp port mode) s

/-- SETUP (R61, R62). -/
def execSetup (stamp : Count) (code reserve enable : Byte) (s : State) :
    Host.Outcome State Fault Refusal :=
  frameEvent (.setup stamp code reserve enable) s

/-! ### Uncounted frames -/

/-- FILL (R47). -/
def execFill (s : State) : Host.Outcome State Fault Refusal := frameEvent .fill s

/-- RESUME CONTINUE (R42, R44). -/
def execResumeContinue (count : Count) (s : State) : Host.Outcome State Fault Refusal :=
  frameEvent (.resume 0x00#8 count) s

/-- RESUME REBASE (R43, R44). -/
def execResumeRebase (count : Count) (s : State) : Host.Outcome State Fault Refusal :=
  frameEvent (.resume 0x01#8 count) s

/-- RESUME whose mode byte is neither (R44). -/
def execResumeUnknownMode (mode : Byte) (count : Count) (s : State) :
    Host.Outcome State Fault Refusal :=
  frameEvent (.resume mode count) s

/-- RESTART (R45, R46). -/
def execRestart (s : State) : Host.Outcome State Fault Refusal := frameEvent .restart s

/-- TEND RETRY (R84, R85). -/
def execTendRetry (port : Byte) (s : State) : Host.Outcome State Fault Refusal :=
  frameEvent (.tend port 0x00#8) s

/-- TEND SKIP (R84, R86). -/
def execTendSkip (port : Byte) (s : State) : Host.Outcome State Fault Refusal :=
  frameEvent (.tend port 0x01#8) s

/-- TEND FLUSH (R84, R87). -/
def execTendFlush (port : Byte) (s : State) : Host.Outcome State Fault Refusal :=
  frameEvent (.tend port 0x02#8) s

/-- TEND whose action code is none of the three (R84). -/
def execTendUnknownAction (port action : Byte) (s : State) : Host.Outcome State Fault Refusal :=
  frameEvent (.tend port action) s

/-- QUERY HUB (R161, R165). -/
def execQueryHub (tag argHi argLo : Byte) (s : State) : Host.Outcome State Fault Refusal :=
  frameEvent (.query tag 0x01#8 argHi argLo) s

/-- QUERY PORT (R161, R162, R166). -/
def execQueryPort (tag argHi argLo : Byte) (s : State) : Host.Outcome State Fault Refusal :=
  frameEvent (.query tag 0x02#8 argHi argLo) s

/-- QUERY QUEUE (R161, R162, R168). -/
def execQueryQueue (tag argHi argLo : Byte) (s : State) : Host.Outcome State Fault Refusal :=
  frameEvent (.query tag 0x03#8 argHi argLo) s

/-- QUERY TALLY (R161, R162, R171). -/
def execQueryTally (tag argHi argLo : Byte) (s : State) : Host.Outcome State Fault Refusal :=
  frameEvent (.query tag 0x04#8 argHi argLo) s

/-- QUERY IDENT (R161, R169). -/
def execQueryIdent (tag argHi argLo : Byte) (s : State) : Host.Outcome State Fault Refusal :=
  frameEvent (.query tag 0x05#8 argHi argLo) s

/-- QUERY whose kind byte is none of the five (R162). -/
def execQueryUnknownKind (tag kind argHi argLo : Byte) (s : State) :
    Host.Outcome State Fault Refusal :=
  frameEvent (.query tag kind argHi argLo) s

/-- RECALL (R156, R157). -/
def execRecall (rc : Count) (s : State) : Host.Outcome State Fault Refusal :=
  frameEvent (.recall rc) s

end Sys2Proof.Machine
end

