-- ==== Sys2Proof/Machine/Pins.lean ====
section
/-! DEFINITION. The commands of the pins and of the transmit line (R127, R153, R159, R183). -/

namespace Sys2Proof.Machine

/-- A frame is in transmission (R149). -/
def lineBusy (s : State) : Bool :=
  match s.line with
  | .free => false
  | .busy _ => true

/-- END_OF_TRANSMISSION (R153): the line becomes FREE, and a choice is made if a source waits. -/
def execEndOfTransmission (s : State) : Host.Outcome State Fault Refusal :=
  .next (eventIf lineBusy (fun s => { s with line := .free }) s)

/-- The synchronized level of ATTN is written. The level is an input, so it also changes while
RESET is held (R137). -/
def setAttn (asserted : Bool) (s : State) : State := { s with attn := asserted }

/-- ATTN_CHANGE (R127): the synchronized level changes to this one. -/
def execAttnChange (asserted : Bool) (s : State) : Host.Outcome State Fault Refusal :=
  .next
    (if s.resetHeld then setAttn asserted s
    else eventIf (fun s => s.attn != asserted) (setAttn asserted) s)

/-- RESET_ASSERTED (R183): the hub is held at its pin-reset values, and a frame in transmission is
cut short (R159). -/
def execResetAsserted (s : State) : Host.Outcome State Fault Refusal :=
  .next (pinReset s.rate true s)

/-- RESET_RELEASED (R183): the pin-reset values are taken and the straps sampled; the line is FREE
with STREAM pending, so the choice begins a STREAM frame at once (R159). -/
def execResetReleased (rate1 rate0 : Bool) (s : State) : Host.Outcome State Fault Refusal :=
  .next (endEvent (pinReset (Rate.ofStraps rate1 rate0) false s))

end Sys2Proof.Machine
end

