-- ==== Sys2Proof/Machine/Tributary.lean ====
section
/-! DEFINITION. The tributary receiver, the outcomes of transactions, and the commands of the
tributary bus (spec chapters 5 and 7). -/

namespace Sys2Proof.Machine

/-! ### Outcomes -/

/-- The item at the head of a port queue (R7). -/
def headItem (s : State) (p : PortNo) : Option Item := (s.port p).queue.head?

/-- The stamp of the head of a port queue. -/
def headStamp (s : State) (p : PortNo) : Count := ((headItem s p).map Item.stamp).getD 0#16

/-- Failed attempts and tolerated BUSY replies of a job (R4). -/
def Item.counters : Item → Nat × Nat
  | .job _ _ _ a b => (a, b)
  | .marker _ _ => (0, 0)

/-- The counters of the head of a port queue. -/
def headCounters (s : State) (p : PortNo) : Nat × Nat :=
  ((headItem s p).map Item.counters).getD (0, 0)

/-- A port is CLOSING (R108). -/
def isClosing (s : State) (p : PortNo) : Bool :=
  match (s.port p).state with
  | .closing _ => true
  | _ => false

/-- A job failure: JOB_FAILED, the FAULT report on the reservation, then the Port Controller
(R108, R79). -/
def jobFails (k : JobKind) (p : PortNo) (cause : FaultCause) (s : State) : State :=
  jobFailsPort p cause
    (useReservation
      (.fault p (headStamp s p) k cause (headCounters s p).1 (isClosing s p))
      (bump .jobFailed s))

/-- A failed attempt, by expiry or bad reply: the attempts rise by one; the job fails if they exceed
the port's retries, and otherwise waits with the reservation returned (R107, R110). -/
def attemptFails (k : JobKind) (p : PortNo) (cause : FaultCause) (s : State) : State :=
  let s' := setHeadCounters p (fun a b => (a + 1, b)) (dropTransaction s)
  if (s'.port p).params.retries.toNat < (headCounters s' p).1 then jobFails k p cause s'
  else jobWaits p (returnReservation s')

/-- A poll ends: the bus becomes IDLE and the scanner acts on the outcome (R132, R135). -/
def pollEnds (s : State) : State := afterPoll (dropTransaction s)

/-- A silent poll (R132). -/
def pollSilent (s : State) : State := pollEnds (returnReservation (bump .scanSilent s))

/-- The deadline of a transaction is taken as expired (R101, R107, R132). -/
def deadlineTaken (t : Transaction) (s : State) : State :=
  match t.kind with
  | .poll => pollSilent s
  | .job k => attemptFails k t.port .noReply (bump .busTimeout s)

/-- A bad reply to a job, or a silent answer to a poll (R102, R107, R132). -/
def badReply (t : Transaction) (s : State) : State :=
  match t.kind with
  | .poll => pollSilent s
  | .job k => attemptFails k t.port .badReply (bump .busBadReply s)

/-- A valid DONE reply: a FETCH's reservation becomes the REPLY report, a CALL's is returned, and the
job settles (R103). -/
def replyDone (k : JobKind) (p : PortNo) (data : List Byte) (s : State) : State :=
  let s' := dropTransaction s
  jobFinishes p
    (if k = .fetch then useReservation (.reply p (headStamp s p) data) s'
    else returnReservation s')

/-- A valid BUSY reply: tolerated with a busy wait while the busy count is below the limit, and a
failure otherwise (R104, R105). -/
def replyBusy (k : JobKind) (p : PortNo) (s : State) : State :=
  let s' := bump .busBusy (dropTransaction s)
  if (headCounters s' p).2 < (s'.port p).params.busyLimit.toNat then
    let s'' := returnReservation (setHeadCounters p (fun a b => (a, b + 1)) s')
    match (s''.port p).state with
    | .closing ⟨.discard, _, _, _⟩ => jobWaits p s''
    | _ => jobWaits p (modPort p (fun x => { x with busyWait := some x.params.busyWait }) s'')
  else jobFails k p .busyLimit s'

/-- A good frame from the awaited device answers a CALL or FETCH (R102). -/
def judgeJob (k : JobKind) (t : Transaction) (kind : Byte) (data : List Byte) (s : State) : State :=
  if kind ≠ replyKind then badReply t s
  else
    match data with
    | [] => badReply t s
    | status :: after =>
        if status = 0#8 ∧ after.length ≤ 24 then replyDone k t.port after s
        else if status = 1#8 ∧ after = [] then replyBusy k t.port s
        else if status = 2#8 then
          match after with
          | [code] => jobFails k t.port (.refused code) (dropTransaction s)
          | _ => badReply t s
        else badReply t s

/-- A good frame from the awaited device answers a poll (R132, R133). -/
def judgePoll (t : Transaction) (kind : Byte) (data : List Byte) (s : State) : State :=
  if kind ≠ replyKind then pollSilent s
  else
    match data with
    | [] => pollSilent s
    | status :: after =>
        if status = 4#8 ∧ 1 ≤ after.length ∧ after.length ≤ 16 then
          pollEnds (useReservation (.event t.port t.address after) s)
        else if status = 3#8 ∧ after = [] then pollEnds (returnReservation s)
        else pollSilent s

/-- A good frame ends (R102, R109, R132). -/
def goodTribFrame (address kind : Byte) (data : List Byte) (s : State) : State :=
  match s.bus with
  | .awaiting t _ =>
      if address ≠ t.address then bump .strayReply s
      else
        match t.kind with
        | .job k => judgeJob k t kind data s
        | .poll => judgePoll t kind data s
  | .idle => bump .strayReply s
  | .quiet _ _ => bump .strayReply s
  | .sending _ => s

/-- A damaged frame ends, with its address byte if one was received (R91, R102, R109, R132). A frame
that ends before its address lets a deadline that passed meanwhile be taken (R101). -/
def damagedTribFrame (address : Option Byte) (s : State) : State :=
  match s.bus with
  | .awaiting t d =>
      match address with
      | some a => if a = t.address then badReply t s else s
      | none => if d = .passed then deadlineTaken t s else s
  | _ => s

/-! ### The receiver -/

/-- The receiver returns to HUNT (R91). -/
def huntTrib (s : State) : State := { s with tribRx := .hunt }

/-- The byte after START has arrived: the awaited address stops the deadline for good; another
address lets a deadline that passed meanwhile be taken (R101). -/
def addressByte (a : Byte) (s : State) : State :=
  match s.bus with
  | .awaiting t d =>
      if a = t.address then { s with bus := .awaiting t .met }
      else if d = .passed then deadlineTaken t s
      else s
  | _ => s

/-- The bytes of a frame after START are all there: address, kind, LEN, data, CRC (R91, R181). -/
def endOfTribFrame (n : Nat) (bytes : List Byte) (s : State) : State :=
  match bytes with
  | address :: kind :: _ :: rest =>
      if bytes16 (crc16 (bytes.take (n + 3))) = bytes.drop (n + 3) then
        goodTribFrame address kind (rest.take n) (huntTrib s)
      else damagedTribFrame (some address) (huntTrib s)
  | _ => s

/-- A sound character in IN_FRAME, joined to the bytes held (R91). -/
def tribFrameByte (bytes : List Byte) (s : State) : State :=
  match bytes with
  | [a] => addressByte a { s with tribRx := .inFrame [a] }
  | [a, _, len] =>
      if Config.maxTribLen < len.toNat then damagedTribFrame (some a) (huntTrib s)
      else { s with tribRx := .inFrame bytes }
  | _ :: _ :: len :: _ :: _ =>
      if bytes.length = len.toNat + 5 then endOfTribFrame len.toNat bytes s
      else { s with tribRx := .inFrame bytes }
  | _ => { s with tribRx := .inFrame bytes }

/-- A character arrives on the pair (R91). -/
def tribChar (c : LineChar) (s : State) : State :=
  match s.tribRx with
  | .hunt =>
      if c.byte = Config.tribStart ∧ c.framingError = false then { s with tribRx := .inFrame [] }
      else s
  | .inFrame bytes =>
      if c.framingError then damagedTribFrame bytes.head? (huntTrib s)
      else tribFrameByte (bytes ++ [c.byte]) s

/-- The tributary receiver is on: TBDIR is released (R91). -/
def receiverOn (s : State) : Bool := !tbdir s

/-- The event of one character on the pair. While the hub drives it, nothing is received (R91). -/
def tribCharEvent (c : LineChar) (s : State) : State :=
  eventIf receiverOn (withFlags (tribChar c)) s

/-- The tributary receiver is IN_FRAME, so its character gap timer runs (R91). -/
def tribInFrame (s : State) : Bool :=
  match s.tribRx with
  | .hunt => false
  | .inFrame _ => true

/-- The character gap expires: the frame ends damaged (R91). -/
def tribGapExpires (s : State) : State :=
  match s.tribRx with
  | .hunt => s
  | .inFrame bytes => damagedTribFrame bytes.head? (huntTrib s)

/-- The receiver holds a START byte alone whose next byte will be of another address than the awaited
one, and the deadline has passed meanwhile (R101). -/
def strangerAfterPassed (address : Byte) (s : State) : Bool :=
  match s.bus with
  | .awaiting t .passed => s.tribRx == .inFrame [] && address != t.address
  | _ => false

/-- The event in which a good frame ends. -/
def tribFrameEnd (address kind : Byte) (data : List Byte) (s : State) : State :=
  eventIf receiverOn (withFlags fun s => goodTribFrame address kind data (huntTrib s)) s

/-- A whole good frame arrives. Where the receiver holds its START, the deadline has passed and the
address is a stranger's, the address byte is an event of its own: the deadline is taken in it, and
the rest of the frame meets the bus that follows (R101). -/
def tribFrameArrives (address kind : Byte) (data : List Byte) (s : State) : State :=
  if strangerAfterPassed address s then
    eventIf tribInFrame (withFlags fun s => goodTribFrame address kind data (huntTrib s))
      (tribCharEvent ⟨address, false⟩ s)
  else tribFrameEnd address kind data s

/-! ### The dispatcher's own events -/

/-- The frame being sent carries a SEND (R99). -/
def sendingPost (s : State) : Bool :=
  match s.bus with
  | .sending t => t.kind == .job .send
  | _ => false

/-- The frame being sent carries a CALL or FETCH (R100). -/
def sendingCommand (s : State) : Bool :=
  match s.bus with
  | .sending t => t.kind == .job .call || t.kind == .job .fetch
  | _ => false

/-- The frame being sent is a POLL (R131). -/
def sendingPoll (s : State) : Bool :=
  match s.bus with
  | .sending t => t.kind == .poll
  | _ => false

/-- A POST frame has been sent: the SEND settles and the bus becomes IDLE (R99). -/
def postSent (s : State) : State :=
  match s.bus with
  | .sending t => jobFinishes t.port (dropTransaction s)
  | _ => s

/-- A COMMAND or POLL frame has been sent: the bus becomes AWAITING with the deadline running (R100,
R131). -/
def commandSent (s : State) : State :=
  match s.bus with
  | .sending t => { s with bus := .awaiting t .running }
  | _ => s

/-- The reply deadline runs (R101). -/
def deadlineRuns (s : State) : Bool :=
  match s.bus with
  | .awaiting _ .running => true
  | _ => false

/-- The deadline expires: not taken while the receiver holds a START byte and awaits the byte after
it, and otherwise the attempt times out (R101, R107, R132). -/
def deadlineExpires (s : State) : State :=
  match s.bus with
  | .awaiting t _ =>
      if s.tribRx = .inFrame [] then { s with bus := .awaiting t .passed } else deadlineTaken t s
  | _ => s

/-- The bus is QUIET (R113). -/
def busQuiet (s : State) : Bool :=
  match s.bus with
  | .quiet _ _ => true
  | _ => false

/-- A character of an abandoned frame is being driven on the QUIET bus (R111). -/
def abandonedChar (s : State) : Bool :=
  match s.bus with
  | .quiet _ abandoned => abandoned.isSome
  | _ => false

/-- The abandoned character ends: TBDIR and the pair are released (R111, R182). -/
def releasePair (s : State) : State :=
  match s.bus with
  | .quiet n _ => { s with bus := .quiet n none }
  | _ => s

/-! ### The commands -/

/-- SEND_END_OF_SENDING (R99). -/
def execSendEndOfSending (s : State) : Host.Outcome State Fault Refusal :=
  .next (eventIf sendingPost (withFlags postSent) s)

/-- COMMAND_END_OF_SENDING (R100). -/
def execCommandEndOfSending (s : State) : Host.Outcome State Fault Refusal :=
  .next (eventIf sendingCommand commandSent s)

/-- POLL_END_OF_SENDING (R131). -/
def execPollEndOfSending (s : State) : Host.Outcome State Fault Refusal :=
  .next (eventIf sendingPoll commandSent s)

/-- DEADLINE_MET (R101): START, unless a frame has begun already, and the byte after it. -/
def execDeadlineMet (address : Option Byte) (s : State) : Host.Outcome State Fault Refusal :=
  .next
    (match address with
    | none => tribCharEvent ⟨Config.tribStart, false⟩ s
    | some a =>
        tribCharEvent ⟨a, false⟩
          (if tribInFrame s then s else tribCharEvent ⟨Config.tribStart, false⟩ s))

/-- A good REPLY frame with this status ends. -/
def replyEvent (status address : Byte) (after : List Byte) (s : State) : State :=
  tribFrameArrives address replyKind (status :: after) s

/-- REPLY_DONE (R103). -/
def execReplyDone (address : Byte) (after : List Byte) (s : State) :
    Host.Outcome State Fault Refusal :=
  if (Instr.replyDone address after).carried then .next (replyEvent 0x00#8 address after s)
  else .refused .illFormed

/-- REPLY_BUSY (R104). -/
def execReplyBusy (address : Byte) (after : List Byte) (s : State) :
    Host.Outcome State Fault Refusal :=
  if (Instr.replyBusy address after).carried then .next (replyEvent 0x01#8 address after s)
  else .refused .illFormed

/-- REPLY_REFUSED (R106). -/
def execReplyRefused (address : Byte) (after : List Byte) (s : State) :
    Host.Outcome State Fault Refusal :=
  if (Instr.replyRefused address after).carried then .next (replyEvent 0x02#8 address after s)
  else .refused .illFormed

/-- REPLY_EVENT (R133). -/
def execReplyEvent (address : Byte) (after : List Byte) (s : State) :
    Host.Outcome State Fault Refusal :=
  if (Instr.replyEvent address after).carried then .next (replyEvent 0x04#8 address after s)
  else .refused .illFormed

/-- REPLY_NONE (R132). -/
def execReplyNone (address : Byte) (after : List Byte) (s : State) :
    Host.Outcome State Fault Refusal :=
  if (Instr.replyNone address after).carried then .next (replyEvent 0x03#8 address after s)
  else .refused .illFormed

/-- TRIBUTARY_OTHER_FRAME (R102). -/
def execTributaryOtherFrame (address kind : Byte) (data : List Byte) (s : State) :
    Host.Outcome State Fault Refusal :=
  if (Instr.tributaryOtherFrame address kind data).carried then
    .next (tribFrameArrives address kind data s)
  else .refused .illFormed

/-- TRIBUTARY_DAMAGED_FRAME (R91): the characters arrive one by one. -/
def execTributaryDamagedFrame (chars : List LineChar) (s : State) :
    Host.Outcome State Fault Refusal :=
  .next (chars.foldl (fun acc c => tribCharEvent c acc) s)

/-- TRIBUTARY_CHARACTER_GAP_EXPIRY (R91). -/
def execTributaryCharacterGapExpiry (s : State) : Host.Outcome State Fault Refusal :=
  .next (eventIf tribInFrame (withFlags tribGapExpires) s)

/-- DEADLINE_EXPIRY (R101, R107, R132). -/
def execDeadlineExpiry (s : State) : Host.Outcome State Fault Refusal :=
  .next (eventIf deadlineRuns (withFlags deadlineExpires) s)

/-- BUSY_WAIT_EXPIRY (R105). -/
def execBusyWaitExpiry (p : PortNo) (s : State) : Host.Outcome State Fault Refusal :=
  .next (eventIf (fun s => (s.port p).busyWait.isSome) (fun s => callArbiter (stopBusyWait p s)) s)

/-- TQUIET_EXPIRY (R113). -/
def execTquietExpiry (s : State) : Host.Outcome State Fault Refusal :=
  .next (eventIf busQuiet dropTransaction s)

/-- ABANDONED_CHARACTER_END (R111). -/
def execAbandonedCharacterEnd (s : State) : Host.Outcome State Fault Refusal :=
  .next (eventIf abandonedChar releasePair s)

end Sys2Proof.Machine
end

