-- ==== Sys2Proof/Machine/Dispatch.lean ====
section
/-! DEFINITION. The dispatch of commands to their meanings, one arm per row of the table. -/

namespace Sys2Proof.Machine

/-- The effect of a command on everything but the queue of commands. -/
def exec (i : Instr) (s : State) : Host.Outcome State Fault Refusal :=
  match i with
  | .noise byte ferr => Sys2Proof.Machine.execNoise byte ferr s
  | .outOfRangeLen byte ferr => Sys2Proof.Machine.execOutOfRangeLen byte ferr s
  | .tgapExpiry => Sys2Proof.Machine.execTgapExpiry s
  | .damagedFrame body crc => Sys2Proof.Machine.execDamagedFrame body crc s
  | .framingError byte => Sys2Proof.Machine.execFramingError byte s
  | .malformedFrame body => Sys2Proof.Machine.execMalformedFrame body s
  | .send stamp port data => Sys2Proof.Machine.execSend stamp port data s
  | .call stamp port data => Sys2Proof.Machine.execCall stamp port data s
  | .fetch stamp port data => Sys2Proof.Machine.execFetch stamp port data s
  | .fence stamp m => Sys2Proof.Machine.execFence stamp m s
  | .mark stamp echo => Sys2Proof.Machine.execMark stamp echo s
  | .openPort stamp port params => Sys2Proof.Machine.execOpenPort stamp port params s
  | .closeFinish stamp port => Sys2Proof.Machine.execCloseFinish stamp port s
  | .closeDiscard stamp port => Sys2Proof.Machine.execCloseDiscard stamp port s
  | .setup stamp code reserve enable => Sys2Proof.Machine.execSetup stamp code reserve enable s
  | .fill => Sys2Proof.Machine.execFill s
  | .resumeContinue count => Sys2Proof.Machine.execResumeContinue count s
  | .resumeRebase count => Sys2Proof.Machine.execResumeRebase count s
  | .restart => Sys2Proof.Machine.execRestart s
  | .tendRetry port => Sys2Proof.Machine.execTendRetry port s
  | .tendSkip port => Sys2Proof.Machine.execTendSkip port s
  | .tendFlush port => Sys2Proof.Machine.execTendFlush port s
  | .queryHub tag argHi argLo => Sys2Proof.Machine.execQueryHub tag argHi argLo s
  | .queryPort tag argHi argLo => Sys2Proof.Machine.execQueryPort tag argHi argLo s
  | .queryQueue tag argHi argLo => Sys2Proof.Machine.execQueryQueue tag argHi argLo s
  | .queryTally tag argHi argLo => Sys2Proof.Machine.execQueryTally tag argHi argLo s
  | .queryIdent tag argHi argLo => Sys2Proof.Machine.execQueryIdent tag argHi argLo s
  | .recall rc => Sys2Proof.Machine.execRecall rc s
  | .silenceTimerExpiry => Sys2Proof.Machine.execSilenceTimerExpiry s
  | .endOfTransmission => Sys2Proof.Machine.execEndOfTransmission s
  | .sendEndOfSending => Sys2Proof.Machine.execSendEndOfSending s
  | .commandEndOfSending => Sys2Proof.Machine.execCommandEndOfSending s
  | .pollEndOfSending => Sys2Proof.Machine.execPollEndOfSending s
  | .deadlineMet address => Sys2Proof.Machine.execDeadlineMet address s
  | .replyDone address after => Sys2Proof.Machine.execReplyDone address after s
  | .replyBusy address after => Sys2Proof.Machine.execReplyBusy address after s
  | .replyRefused address after => Sys2Proof.Machine.execReplyRefused address after s
  | .replyEvent address after => Sys2Proof.Machine.execReplyEvent address after s
  | .replyNone address after => Sys2Proof.Machine.execReplyNone address after s
  | .tributaryDamagedFrame chars => Sys2Proof.Machine.execTributaryDamagedFrame chars s
  | .tributaryCharacterGapExpiry => Sys2Proof.Machine.execTributaryCharacterGapExpiry s
  | .deadlineExpiry => Sys2Proof.Machine.execDeadlineExpiry s
  | .busyWaitExpiry p => Sys2Proof.Machine.execBusyWaitExpiry p s
  | .tquietExpiry => Sys2Proof.Machine.execTquietExpiry s
  | .abandonedCharacterEnd => Sys2Proof.Machine.execAbandonedCharacterEnd s
  | .attnChange asserted => Sys2Proof.Machine.execAttnChange asserted s
  | .resetAsserted => Sys2Proof.Machine.execResetAsserted s
  | .resetReleased rate1 rate0 => Sys2Proof.Machine.execResetReleased rate1 rate0 s
  | .resumeUnknownMode mode count => Sys2Proof.Machine.execResumeUnknownMode mode count s
  | .tendUnknownAction port action => Sys2Proof.Machine.execTendUnknownAction port action s
  | .closeUnknownMode stamp port mode => Sys2Proof.Machine.execCloseUnknownMode stamp port mode s
  | .queryUnknownKind tag kind argHi argLo => Sys2Proof.Machine.execQueryUnknownKind tag kind argHi argLo s
  | .tributaryOtherFrame address kind data => Sys2Proof.Machine.execTributaryOtherFrame address kind data s

end Sys2Proof.Machine
end

