-- ==== Sys2Proof/Machine/Characters.lean ====
section
/-! DEFINITION. Characters as levels of a line, true at mark: the format of both lines, what TXD and
the pair carry bit by bit, and the detection of characters on RXD (R111, R149, R173, R181, R182). -/

namespace Sys2Proof.Machine

/-! ### The format -/

/-- The levels of a character, bit by bit: a start bit at space, eight data bits least significant
first, and a stop bit, at space in a framing error (R173). -/
def charLevels (c : LineChar) : List Bool :=
  false :: ([0, 1, 2, 3, 4, 5, 6, 7].map fun i => c.byte.getLsbD i) ++ [!c.framingError]

/-- The levels of sound characters sent back to back (R149, R173). -/
def bytesLevels (bytes : List Byte) : List Bool := bytes.flatMap fun b => charLevels ⟨b, false⟩

/-- The byte of eight data bits, least significant first (R173). -/
def byteOfBits (bits : List Bool) : Byte :=
  byteOf (bits.foldr (fun b n => b.toNat + 2 * n) 0)

/-! ### What the hub drives -/

/-- The level of TXD in the bit time `k` after the start of the frame in transmission: mark with no
frame, and after its last bit (R149, R173). -/
def State.txdLevel (s : State) (k : Nat) : Bool :=
  match s.txd with
  | none => true
  | some bytes => (bytesLevels bytes)[k]?.getD true

/-- The level the hub drives onto the pair in the bit time `k` after it began the frame, absent where
the pair is released (R181, R182). -/
def drivenLevel (s : State) (k : Nat) : Option Bool :=
  (drivenFrame s).map fun bytes => (bytesLevels bytes)[k]?.getD true

/-- The level the hub drives in the bit time `k` of an abandoned frame, for a RESTART taken in its bit
time `r`: the character under way goes to the end of its stop bit, and no other bit is driven (R111,
R182). -/
def abandonedLevel (r : Nat) (s : State) (k : Nat) : Option Bool :=
  if k / 10 = r / 10 then drivenLevel s k else none

/-! ### What the hub hears -/

/-- The level at the middle of a bit is read. A start bit that reads mark was a glitch, and nothing
comes of it; a stop bit that reads space makes a framing error (R173). Returns the character part
way, and the character that is complete. -/
def middleOfBit (half : Nat) (level : Bool) (bits : List Bool) : Option PartChar × Option LineChar :=
  match bits with
  | [] => if level then (none, none) else (some ⟨2 * half, [level]⟩, none)
  | _ :: data =>
      if data.length = 8 then (none, some ⟨byteOfBits data, !level⟩)
      else (some ⟨2 * half, bits ++ [level]⟩, none)

/-- One sample of RXD while a character is part way: the middle of a bit, or a sample before it. -/
def samplePart (half : Nat) (level : Bool) (c : PartChar) : Option PartChar × Option LineChar :=
  if 1 < c.wait then (some { c with wait := c.wait - 1 }, none) else middleOfBit half level c.bits

/-- One sample of RXD. A fall from mark to space begins a character, whose first middle is half a bit
later; with none begun, a line that stays at space waits for mark (R173). -/
def sampleRxd (half : Nat) (before level : Bool) (part : Option PartChar) :
    Option PartChar × Option LineChar :=
  match part with
  | some c => samplePart half level c
  | none => (if before && !level then some ⟨half, []⟩ else none, none)

/-- RXD is at this level at one moment of a grid of `half` moments in half a bit time. A character
that is complete is put at the end of the queue as the command of its arrival. While RESET is held
low no character is received (R173, R183). The grid and the place in the queue are the model's choices
(DESIGN CHOICE, notes/assumptions 31). -/
def State.hearRxd (half : Nat) (s : State) (level : Bool) : State :=
  if s.resetHeld then { s with rxdLevel := level, rxdChar := none }
  else
    { s with
      rxdLevel := level
      rxdChar := (sampleRxd half s.rxdLevel level s.rxdChar).1
      pending := s.pending ++
        ((sampleRxd half s.rxdLevel level s.rxdChar).2.map fun c =>
          Instr.noise c.byte c.framingError).toList }

/-- RXD takes these levels, one after another, on that grid. -/
def State.hearLevels (half : Nat) (levels : List Bool) (s : State) : State :=
  levels.foldl (State.hearRxd half) s

/-- Levels that each hold for one bit time of that grid. -/
def bitTimes (half : Nat) (levels : List Bool) : List Bool :=
  levels.flatMap (List.replicate (2 * half))

end Sys2Proof.Machine
end

