-- ==== Sys2Proof/Safety.lean ====
section
/-! DEFINITION. What a safe run keeps: the laws of the device that every step keeps, and the terms in
which claims speak of frames, of characters fed to a receiver, and of the outcomes of admission. -/

namespace Sys2Proof.Machine

/-! ### Laws of the device -/

/-- The sum of the occupancies of the sixteen port queues (R1, R7). -/
def occupancies (s : State) : Nat := (allPorts.map fun p => (s.port p).queue.length).sum

/-- Free slots and queued items make up the pool (R1). -/
abbrev PoolConserved (s : State) : Prop := s.free + occupancies s = Config.poolSlots

/-- The entry is GATHERING (R114). -/
def gathering (s : State) (i : FenceNo) : Bool :=
  match s.fence i with
  | .free => false
  | .gathering _ => true

/-- The reservations a transaction in flight holds: one for a CALL, FETCH or POLL (R97, R141). -/
def transactionHolds (s : State) : Nat :=
  match s.bus with
  | .sending t => if t.kind = .job .send then 0 else 1
  | .awaiting t _ => if t.kind = .job .send then 0 else 1
  | _ => 0

/-- No SEND is awaited (R90). -/
def noSendAwaited (s : State) : Bool :=
  match s.bus with
  | .awaiting t _ => t.kind != .job .send
  | _ => true

/-- Each reservation has its holder, and the report queue is within its entries (R138, R141). -/
abbrev ReservationsHeld (s : State) : Prop :=
  s.reservations =
      (allFences.filter (gathering s)).length + (allPorts.filter (isClosing s)).length +
        transactionHolds s ∧
    entriesInUse s ≤ Config.reportEntries ∧ noSendAwaited s

/-- The ring and the queue hold reports of consecutive report counts, the last of them just before
the next RC, and the ring holds at most sixteen (R139, R155). -/
abbrev CountsConsecutive (s : State) : Prop :=
  s.ring.length ≤ Config.ringSize ∧
    (s.ring ++ s.reports).map Report.rc =
      (List.range (s.ring ++ s.reports).length).map fun i =>
        s.nextRC - BitVec.ofNat 16 ((s.ring ++ s.reports).length - i)

/-- PROGRESS is pending exactly while some port is progress-dirty (R146). -/
abbrev ProgressAgrees (s : State) : Prop :=
  s.progressPending = allPorts.any fun p => (s.port p).dirty

/-- A CLOSED port has an empty queue and a clear congestion flag (R12, R14). Any other port has
parameters in range, an occupancy within its quota, and a congestion flag that its marks allow (R12,
R13, R63). -/
def portInBounds (x : Port) : Bool :=
  match x.state with
  | .closed => x.queue.isEmpty && !x.congested
  | _ =>
      paramsInRange x.params && decide (x.queue.length ≤ x.params.quota.toNat) &&
        (if x.congested then decide (x.params.lowMark.toNat < x.queue.length)
        else decide (x.queue.length < x.params.highMark.toNat))

/-- Every port is in bounds, the pool reserve is 0..95, and the pool-low flag is set exactly while
the free count is at or below it (R5, R6, R12, R13). -/
abbrev FlagsAgree (s : State) : Prop :=
  (∀ p, portInBounds (s.port p)) ∧ s.poolReserve.toNat ≤ 95 ∧
    s.poolLow = decide (s.free ≤ s.poolReserve.toNat)

/-- The kind of the job at the head of a queue. -/
def headKind : List Item → Option JobKind
  | .job k _ _ _ _ :: _ => some k
  | _ => none

/-- The kind of the job in flight for a port (R15, R90). -/
def flightKind (s : State) (p : PortNo) : Option JobKind :=
  match s.bus with
  | .sending ⟨.job k, q, _, _⟩ => if q = p then some k else none
  | .awaiting ⟨.job k, q, _, _⟩ _ => if q = p then some k else none
  | _ => none

/-- A port and its queue agree (R12, R68, R76, R77, R82, R90): a CLOSED port's queue is empty, a
FAULTED port has a job at its head and nothing in flight, a port CLOSING in FINISH mode holds an
item, a port CLOSING in DISCARD mode holds the job in flight alone, and a job in flight is at the
head of its port. -/
def portCoherent (s : State) (p : PortNo) : Bool :=
  (match flightKind s p with
    | none => true
    | some k => headKind (s.port p).queue == some k) &&
  match (s.port p).state with
  | .closed => (s.port p).queue.isEmpty
  | .opened => true
  | .faulted _ => (headKind (s.port p).queue).isSome && (flightKind s p).isNone
  | .closing c =>
      match c.mode with
      | .finish => !(s.port p).queue.isEmpty
      | .discard => (flightKind s p).isSome && (s.port p).queue.length == 1

/-- A fence entry and the markers of its index agree (R114, R115, R118): a FREE entry has none, and a
GATHERING entry has two members or more, one marker with its stamp in each member's queue and in no
other, the members with the marker at the head as its arrived set, and some member not arrived. -/
def fenceCoherent (s : State) (i : FenceNo) : Bool :=
  match s.fence i with
  | .free => allPorts.all fun p => (s.port p).queue.all fun it => !it.isMarkerOf i
  | .gathering g =>
      decide (2 ≤ (members g.members).length) && g.arrived != g.members &&
      allPorts.all fun p =>
        (s.port p).queue.filter (Item.isMarkerOf i) ==
            (if g.members.getLsbD p.val then [.marker g.stamp i] else []) &&
          g.arrived.getLsbD p.val == headIsMarker s i p

/-- Ports, bus and fence table agree, and no SEND is awaited (R90, R114). -/
abbrev Coherent (s : State) : Prop :=
  (∀ p, portCoherent s p) ∧ (∀ i, fenceCoherent s i) ∧ noSendAwaited s

/-- Two ports that are not CLOSED have two device addresses (R64, R70). -/
abbrev BindingsDistinct (s : State) : Prop :=
  ∀ p q, (s.port p).state ≠ .closed → (s.port q).state ≠ .closed →
    (s.port p).params.address = (s.port q).params.address → p = q

/-- An IDLE bus means that no head is eligible and no scan is PENDING, and the queue of a CLOSED port
is empty (R12, R92, R93, R129). -/
abbrev BusServed (s : State) : Prop :=
  (s.bus = .idle → (∀ p, eligibleHead s p = none) ∧ s.scan ≠ .pending) ∧
    ∀ p, (s.port p).state = .closed → (s.port p).queue = []

/-! ### What the end of an event leaves -/

/-- The parts of a port record that the end of an event does not write: all but the dirty flag. -/
def Port.durable (x : Port) : Port := { x with dirty := false }

/-- The state with every field that the end of an event may write set to a fixed value. The pending
flags, the transmitter, the report queue, the ring, the answer slot, the bus, its receiver, the
pointers, the scan and the reservations are those fields. -/
def State.durable (s : State) : State :=
  { s with
    ports := s.ports.map Port.durable
    streamPending := false
    flowPending := false
    progressPending := false
    line := .free
    turn := .progress
    reports := []
    ring := []
    slot := none
    bus := .idle
    tribRx := .hunt
    urgentPtr := 0
    normalPtr := 0
    scan := .inactive
    nextIndex := 0
    alternation := false
    reservations := 0
    decisionDue := false }

/-! ### Frames and characters -/

/-- The host frame a whole-frame command brings. -/
def hostFrameOf : Instr → Option HostFrame
  | .send stamp port data => some (.job .send stamp port data)
  | .call stamp port data => some (.job .call stamp port data)
  | .fetch stamp port data => some (.job .fetch stamp port data)
  | .fence stamp m => some (.fence stamp m)
  | .mark stamp echo => some (.mark stamp echo)
  | .openPort stamp port params => some (.openPort stamp port params)
  | .closeFinish stamp port => some (.close stamp port 0x00#8)
  | .closeDiscard stamp port => some (.close stamp port 0x01#8)
  | .closeUnknownMode stamp port mode => some (.close stamp port mode)
  | .setup stamp code reserve enable => some (.setup stamp code reserve enable)
  | .fill => some .fill
  | .resumeContinue count => some (.resume 0x00#8 count)
  | .resumeRebase count => some (.resume 0x01#8 count)
  | .resumeUnknownMode mode count => some (.resume mode count)
  | .restart => some .restart
  | .tendRetry port => some (.tend port 0x00#8)
  | .tendSkip port => some (.tend port 0x01#8)
  | .tendFlush port => some (.tend port 0x02#8)
  | .tendUnknownAction port action => some (.tend port action)
  | .queryHub tag argHi argLo => some (.query tag 0x01#8 argHi argLo)
  | .queryPort tag argHi argLo => some (.query tag 0x02#8 argHi argLo)
  | .queryQueue tag argHi argLo => some (.query tag 0x03#8 argHi argLo)
  | .queryTally tag argHi argLo => some (.query tag 0x04#8 argHi argLo)
  | .queryIdent tag argHi argLo => some (.query tag 0x05#8 argHi argLo)
  | .queryUnknownKind tag kind argHi argLo => some (.query tag kind argHi argLo)
  | .recall rc => some (.recall rc)
  | _ => none

/-- The stamp of a counted frame, absent for an uncounted one (R33). -/
def frameStamp : HostFrame → Option Count
  | .job _ stamp _ _ => some stamp
  | .fence stamp _ => some stamp
  | .mark stamp _ => some stamp
  | .openPort stamp _ _ => some stamp
  | .close stamp _ _ => some stamp
  | .setup stamp _ _ _ => some stamp
  | _ => none

/-- The stamp of the counted frame a command brings. -/
def countedStamp (c : Instr) : Option Count := (hostFrameOf c).bind frameStamp

/-- A job frame's data is within the bound its LEN keeps (R33). -/
def frameBounded : HostFrame → Bool
  | .job _ _ _ data => decide (data.length ≤ Config.maxData)
  | _ => true

/-- The commands that bring a job frame. -/
def jobCommand (k : JobKind) (stamp : Count) (port : Byte) (data : List Byte) : Instr :=
  match k with
  | .send => .send stamp port data
  | .call => .call stamp port data
  | .fetch => .fetch stamp port data

/-- The good tributary frame a command brings: address, kind and data field (R102, R181). -/
def goodFrameOf : Instr → Option (Byte × Byte × List Byte)
  | .replyDone address after => some (address, replyKind, 0x00#8 :: after)
  | .replyBusy address after => some (address, replyKind, 0x01#8 :: after)
  | .replyRefused address after => some (address, replyKind, 0x02#8 :: after)
  | .replyNone address after => some (address, replyKind, 0x03#8 :: after)
  | .replyEvent address after => some (address, replyKind, 0x04#8 :: after)
  | .tributaryOtherFrame address kind data => some (address, kind, data)
  | _ => none

/-- A valid reply to a CALL or FETCH: REPLY with DONE and 0..24 bytes, BUSY alone, or REFUSED and one
byte (R102). -/
def validReply (kind : Byte) (data : List Byte) : Prop :=
  kind = replyKind ∧
    ((∃ after, data = 0x00#8 :: after ∧ after.length ≤ 24) ∨ data = [0x01#8] ∨
      ∃ code, data = [0x02#8, code])

/-- An answer to a poll that is not silent: REPLY with EVENT and 1..16 bytes, or NONE alone (R132). -/
def pollAnswer (kind : Byte) (data : List Byte) : Prop :=
  kind = replyKind ∧
    ((∃ after, data = 0x04#8 :: after ∧ 1 ≤ after.length ∧ after.length ≤ 16) ∨ data = [0x03#8])

/-- Commands run one after another from a state, each on the state the one before left, stopping at
the first that does not answer a next state. -/
def runCommands : List Instr → State → Host.Outcome State Fault Refusal
  | [], s => .next s
  | c :: rest, s =>
      match exec c s with
      | .next t => runCommands rest t
      | .fault f => .fault f
      | .refused r => .refused r

/-- Sound characters of these byte values arrive on RXD, one NOISE command each. -/
def feedUplink (bytes : List Byte) : State → Host.Outcome State Fault Refusal :=
  runCommands (bytes.map fun b => .noise b false)

/-- Sound characters of these byte values on the pair. -/
def soundChars (bytes : List Byte) : List LineChar := bytes.map fun b => ⟨b, false⟩

/-- The hub runs, and the end of an event would change nothing, as after every event. -/
abbrev Settled (s : State) : Prop := s.resetHeld = false ∧ endEvent s = s

/-! ### Outcomes of admission -/

/-- What a refusal for lack of room leaves: the hold, counted, with STREAM pending (R32, R34, R52). -/
def refusedFor (detail : NoRoom) (u : State) : State :=
  { bump .holdEntry u with stream := .hold (.noRoom detail), streamPending := true }

/-- What a rejection leaves: the REJECT report on a free entry and AC past the stamp, or the hold
where no entry is free (R34, R51). -/
def rejected (stamp : Count) (frameType : Byte) (reason : RejectReason) (u : State) : State :=
  if entriesInUse u < 32 then
    { u with
      reports := u.reports ++ [⟨u.nextRC, .reject stamp frameType reason⟩]
      nextRC := u.nextRC + 1#16
      ac := u.ac + 1#16 }
  else refusedFor .reports u

/-- What a job failure leaves before the Port Controller acts: JOB_FAILED counted, and the
reservation turned into the FAULT report (R108). -/
def faultReported (p : PortNo) (stamp : Count) (k : JobKind) (cause : FaultCause) (attempts : Nat)
    (u : State) : State :=
  { bump .jobFailed u with
    reservations := u.reservations - 1
    reports := u.reports ++
      [⟨u.nextRC, .fault p stamp k cause attempts
        (match (u.port p).state with
          | .closing _ => true
          | _ => false)⟩]
    nextRC := u.nextRC + 1#16 }

/-- What an admission with this effect leaves: the flags evaluated and AC past the stamp (R5, R13,
R34). -/
def admitted (effect : State → State) (u : State) : State :=
  { withFlags effect u with ac := (withFlags effect u).ac + 1#16 }

end Sys2Proof.Machine
end

