-- ==== Sys2Proof/Certificates/Slice0/Obligations.lean ====
section
/-! DEFINITION. The statements for the provers. Where a statement says `endEvent u`, `u` is the state
the command's own effect leaves, field by field, and `endEvent` is the end of the event, whose own
statements are `EndOfEventKeeps`, `EndOfEventSettles`, `TransmitterChoice` and the three on the
arbiter's decision. -/

open Sys2Proof Sys2Proof.Machine

/-! ### The queue of commands -/

/-- Step takes the command at the front of the queue, and idles on an empty queue (the model's own
conventions, notes/assumptions 1 and 24). -/
def Obligations.StepRunsTheFrontCommand : Prop :=
  (∀ (c : Instr) (s : State), step { s with pending := c :: s.pending } = exec c s) ∧
  (∀ (c : Instr) (rest : List Instr) (s : State),
    s.pending = c :: rest → step s = exec c { s with pending := rest }) ∧
  ∀ s : State, s.pending = [] → step s = .next s

/-- Every command that an event can bring answers a next state in every state, and the others are
refused (notes/assumptions 15). -/
def Obligations.CarriedCommandsComplete : Prop :=
  ∀ (c : Instr) (s : State),
    (c.carried = true → ∃ t, exec c s = .next t) ∧
      (c.carried = false → exec c s = .refused .illFormed)

/-- An expiry, an end or a change whose trigger does not stand changes nothing (the model's choice,
notes/assumptions 2). -/
def Sys2Proof.Claim.NoTriggerNoEvent : Prop :=
  ∀ s : State,
    (s.rx = .hunt → exec .tgapExpiry s = .next s) ∧
    (s.silenceTimer = none → exec .silenceTimerExpiry s = .next s) ∧
    (s.line = .free → exec .endOfTransmission s = .next s) ∧
    ((∀ t, s.bus = .sending t → t.kind ≠ .job .send) → exec .sendEndOfSending s = .next s) ∧
    ((∀ t, s.bus = .sending t → t.kind = .job .send ∨ t.kind = .poll) →
      exec .commandEndOfSending s = .next s) ∧
    ((∀ t, s.bus = .sending t → t.kind ≠ .poll) → exec .pollEndOfSending s = .next s) ∧
    ((∀ t, s.bus ≠ .awaiting t .running) → exec .deadlineExpiry s = .next s) ∧
    (s.tribRx = .hunt → exec .tributaryCharacterGapExpiry s = .next s) ∧
    (∀ p, (s.port p).busyWait = none → exec (.busyWaitExpiry p) s = .next s) ∧
    ((∀ n b, s.bus ≠ .quiet n b) → exec .tquietExpiry s = .next s) ∧
    ((∀ n f, s.bus ≠ .quiet n (some f)) → exec .abandonedCharacterEnd s = .next s) ∧
    exec (.attnChange s.attn) s = .next s

/-- While RESET is held, no command but a change of the ATTN level or of RESET has an effect. -/
def Sys2Proof.Claim.HeldHubIgnores : Prop :=
  ∀ (c : Instr) (s : State), s.resetHeld = true → c.carried = true →
    (∀ a, c = .attnChange a → exec c s = .next { s with attn := a }) ∧
    ((∀ a, c ≠ .attnChange a) → c ≠ .resetAsserted → (∀ a b, c ≠ .resetReleased a b) →
      exec c s = .next s)

/-- While the hub drives the pair, nothing on it is received (the model's inference for whole frames,
notes/assumptions 28). -/
def Sys2Proof.Claim.ReceiverOffWhileDriving : Prop :=
  ∀ s : State, (∃ t, s.bus = .sending t) ∨ (∃ n f, s.bus = .quiet n (some f)) →
    (∀ c frame, goodFrameOf c = some frame → c.carried = true → exec c s = .next s) ∧
    (∀ chars, exec (.tributaryDamagedFrame chars) s = .next s) ∧
    ∀ a, exec (.deadlineMet a) s = .next s

/-- Commands that are no event and change nothing: a trigger that does not stand (the model's choice,
notes/assumptions 2), RESET held low, and the receiver off while the hub drives the pair.
What RESET lets through is the model's inference (notes/assumptions 3), and so is that a whole
tributary frame or DEADLINE_MET met while the hub drives is not received (notes/assumptions 28). -/
def Obligations.EventsThatDoNotOccur : Prop :=
  Sys2Proof.Claim.NoTriggerNoEvent ∧ Sys2Proof.Claim.HeldHubIgnores ∧ Sys2Proof.Claim.ReceiverOffWhileDriving

/-! ### Resets and pins -/

/-- The values after pin reset, field by field, as the chapters' reset rules give them.
State.reset is the moment before the first choice (the model's reading, notes/assumptions 9). -/
def Obligations.ResetValues : Prop :=
  State.reset.rx = .hunt ∧ State.reset.rxdChar = none ∧ State.reset.link = .quiet ∧ State.reset.silenceTimer = none ∧
  State.reset.silenceCode = 50#8 ∧ State.reset.ac = 0 ∧ State.reset.stream = .hold .restarted ∧
  State.reset.free = 96 ∧ State.reset.poolReserve = 8#8 ∧ State.reset.poolLow = false ∧
  (∀ p, State.reset.port p =
    { state := .closed, params := ⟨0, 0, 0, 0, 0, 0, 0, 0, 0, 0⟩, queue := [], congested := false,
      settled := 0, dirty := false, busyWait := none }) ∧
  (∀ i, State.reset.fence i = .free) ∧
  State.reset.bus = .quiet 255#8 none ∧ State.reset.tribRx = .hunt ∧
  State.reset.urgentPtr = 0 ∧ State.reset.normalPtr = 0 ∧
  State.reset.scan = .inactive ∧ State.reset.nextIndex = 0 ∧ State.reset.alternation = false ∧
  State.reset.scanEnable = true ∧
  State.reset.reports = [] ∧ State.reset.reservations = 0 ∧ State.reset.nextRC = 0 ∧
  State.reset.ring = [] ∧ State.reset.slot = none ∧ State.reset.streamPending = true ∧
  State.reset.flowPending = false ∧ State.reset.progressPending = false ∧
  State.reset.line = .free ∧ State.reset.turn = .progress ∧ ∀ t, State.reset.tally t = 0

/-- RESET_ASSERTED holds the hub at the pin-reset values from any state, cutting a frame short, and
RESET_RELEASED takes them, samples the straps and begins a STREAM frame at once.
The waiting commands, the rate while RESET is held, a release from any state and the level of RXD are
the model's choices (notes/assumptions 23, 25, 26 and 30). -/
def Obligations.PinReset : Prop :=
  ∀ s : State,
    exec .resetAsserted s =
      .next { State.reset with
        rxdLevel := s.rxdLevel, rate := s.rate, attn := s.attn, resetHeld := true,
        pending := s.pending } ∧
    ∀ rate1 rate0 : Bool,
      exec (.resetReleased rate1 rate0) s =
        .next { State.reset with
          rxdLevel := s.rxdLevel
          rate :=
            if rate1 then (if rate0 then .r11 else .r10) else if rate0 then .r01 else .r00
          attn := s.attn
          pending := s.pending
          line := .busy (.stream (.hold .restarted) 0 0 .quiet)
          streamPending := false }

/-- A change of the synchronized level of ATTN. -/
def Sys2Proof.Claim.AttnChange : Prop :=
  ∀ (a : Bool) (s : State), s.resetHeld = false → s.attn ≠ a →
    exec (.attnChange a) s = .next (endEvent { s with attn := a })

/-- The end of a frame's transmission frees the line. -/
def Sys2Proof.Claim.EndOfTransmission : Prop :=
  ∀ (f : TxFrame) (s : State), s.resetHeld = false → s.line = .busy f →
    exec .endOfTransmission s = .next (endEvent { s with line := .free })

/-- The expiries of the busy wait and of the quiet period, and the end of an abandoned character. -/
def Sys2Proof.Claim.BusTimers : Prop :=
  ∀ s : State, s.resetHeld = false →
    (∀ p n, (s.port p).busyWait = some n →
      exec (.busyWaitExpiry p) s =
        .next (endEvent
          { modPort p (fun x => { x with busyWait := none }) s with decisionDue := true })) ∧
    (∀ n b, s.bus = .quiet n b →
      exec .tquietExpiry s = .next (endEvent { s with bus := .idle, decisionDue := true })) ∧
    ∀ n f, s.bus = .quiet n (some f) →
      exec .abandonedCharacterEnd s = .next (endEvent { s with bus := .quiet n none })

/-- A change of ATTN, the end of a frame's transmission, the expiries of the busy wait and of the quiet
period, and the end of an abandoned character.
That tQUIET also ends an abandoned character is the model's choice (notes/assumptions 22). -/
def Obligations.TimersAndEnds : Prop :=
  Sys2Proof.Claim.AttnChange ∧ Sys2Proof.Claim.EndOfTransmission ∧ Sys2Proof.Claim.BusTimers

/-! ### Uplink receiver -/

/-- A character in HUNT: a sound C5h begins a frame, and any other is one NOISE. -/
def Sys2Proof.Claim.CharacterInHunt : Prop :=
  ∀ (b : Byte) (ferr : Bool) (s : State), s.resetHeld = false → s.rx = .hunt →
    (ferr = false → b = 0xC5#8 →
      exec (.noise b ferr) s = .next (endEvent { s with rx := .inFrame [] })) ∧
    (ferr = true ∨ b ≠ 0xC5#8 → exec (.noise b ferr) s = .next (endEvent (bump .noise s))) ∧
    exec (.framingError b) s = .next (endEvent (bump .noise s))

/-- The character after a START byte, and the gap timer's expiry before it. -/
def Sys2Proof.Claim.CharacterAfterStart : Prop :=
  ∀ (b : Byte) (ferr : Bool) (s : State), s.resetHeld = false → s.rx = .inFrame [] →
    (ferr = false → 1 ≤ b.toNat → b.toNat ≤ 40 →
      exec (.noise b ferr) s = .next (endEvent { s with rx := .inFrame [b] })) ∧
    (ferr = false → b = 0xC5#8 →
      exec (.outOfRangeLen b ferr) s = .next (endEvent { bump .noise s with rx := .inFrame [] })) ∧
    (ferr = true ∨ (b ≠ 0xC5#8 ∧ (b.toNat = 0 ∨ 40 < b.toNat)) →
      exec (.outOfRangeLen b ferr) s =
        .next (endEvent { bump .noise (bump .noise s) with rx := .hunt })) ∧
    exec (.framingError b) s = .next (endEvent { bump .noise (bump .noise s) with rx := .hunt }) ∧
    exec .tgapExpiry s = .next (endEvent { bump .noise s with rx := .hunt })

/-- A character on RXD: at a fall the receiver waits for the middle of each bit and puts the character,
with its framing error, at the end of the queue as the command of its arrival. -/
def Sys2Proof.Claim.CharacterHeard : Prop :=
  ∀ (half : Nat) (b : Byte) (ferr : Bool) (s : State), 1 ≤ half → s.resetHeld = false →
    s.rxdLevel = true → s.rxdChar = none →
    s.hearLevels half
        (bitTimes half
          [false, b.getLsbD 0, b.getLsbD 1, b.getLsbD 2, b.getLsbD 3, b.getLsbD 4, b.getLsbD 5,
            b.getLsbD 6, b.getLsbD 7, !ferr]) =
      { s with rxdLevel := !ferr, pending := s.pending ++ [.noise b ferr] }

/-- A fall whose start bit reads mark at its middle, whatever the levels between, brings nothing. -/
def Sys2Proof.Claim.GlitchIgnored : Prop :=
  ∀ (half : Nat) (between : List Bool) (s : State), between.length + 1 = half →
    s.resetHeld = false → s.rxdLevel = true → s.rxdChar = none →
    s.hearLevels half (false :: (between ++ [true])) = s

/-- A line held at space past the middle of a stop bit is one character 00h with a framing error,
however long it is held; the next character needs a fall, so the line at mark again brings nothing. -/
def Sys2Proof.Claim.HeldLine : Prop :=
  ∀ (half n : Nat) (s : State), 1 ≤ half → 19 * half < n → s.resetHeld = false →
    s.rxdLevel = true → s.rxdChar = none →
    s.hearLevels half (List.replicate n false) =
      { s with rxdLevel := false, pending := s.pending ++ [.noise 0x00#8 true] } ∧
    s.hearLevels half (List.replicate n false ++ [true]) =
      { s with pending := s.pending ++ [.noise 0x00#8 true] }

/-- With no character part way, a line that stays at mark or stays at space brings nothing; and while
RESET is held nothing is received, whatever the levels. -/
def Sys2Proof.Claim.NothingHeard : Prop :=
  ∀ (half n : Nat) (level : Bool) (s : State),
    (s.resetHeld = false → s.rxdChar = none → s.rxdLevel = level ∨ level = true →
      s.hearLevels half (List.replicate (n + 1) level) = { s with rxdLevel := level }) ∧
    (s.resetHeld = true → s.hearRxd half level = { s with rxdLevel := level, rxdChar := none })

/-- Characters on RXD, detected at a fall and read at the middle of each bit, and characters in HUNT
and after a START byte. The grid of samples is the model's choice (notes/assumptions 31).
A command of a character acts in whatever phase the receiver is in (the model's choice,
notes/assumptions 13). -/
def Obligations.UplinkCharacters : Prop :=
  Sys2Proof.Claim.CharacterHeard ∧ Sys2Proof.Claim.GlitchIgnored ∧ Sys2Proof.Claim.HeldLine ∧
    Sys2Proof.Claim.NothingHeard ∧
    Sys2Proof.Claim.CharacterInHunt ∧ Sys2Proof.Claim.CharacterAfterStart

/-- A frame with an in-range LEN that ends damaged, by a gap, a framing error or its CRC: CHECK_ERR,
and HOLD(CHECK) from RUN. -/
def Obligations.DamagedFrame : Prop :=
  ∀ s : State, s.resetHeld = false →
    ∀ u : State,
      (s.stream = .run →
        u = { bump .holdEntry (bump .checkErr s) with
          rx := .hunt, stream := .hold .check, streamPending := true }) →
      (∀ k, s.stream = .hold k → u = { bump .checkErr s with rx := .hunt }) →
      (∀ len rest, s.rx = .inFrame (len :: rest) →
        exec .tgapExpiry s = .next (endEvent u) ∧
          ∀ b, exec (.framingError b) s = .next (endEvent u)) ∧
      ∀ body crc, 1 ≤ body.length → body.length ≤ 40 →
        crc ≠ crc16 (BitVec.ofNat 8 body.length :: body) →
          exec (.damagedFrame body crc) s = .next (endEvent u)

/-- A good frame with an unknown TYPE or a LEN wrong for its TYPE: MALFORMED, and HOLD(MALFORMED)
from RUN. -/
def Obligations.MalformedFrame : Prop :=
  ∀ (body : List Byte) (s : State), s.resetHeld = false → 1 ≤ body.length → body.length ≤ 40 →
    decodeFrame body = none →
    (s.stream = .run →
      exec (.malformedFrame body) s =
        .next (endEvent
          { bump .holdEntry (bump .malformed (frameReceived s)) with
            stream := .hold .malformed, streamPending := true })) ∧
    ∀ k, s.stream = .hold k →
      exec (.malformedFrame body) s = .next (endEvent (bump .malformed (frameReceived s)))

/-- The bytes of a host frame, fed one character at a time to a settled hub in HUNT, do what the
whole-frame command does.
The whole-frame command's convention is notes/assumptions 10. -/
def Obligations.BytesMakeTheFrame : Prop :=
  ∀ (c : Instr) (f : HostFrame) (s : State), hostFrameOf c = some f → c.carried = true →
    Settled s → s.rx = .hunt → feedUplink (uplinkEnvelope f.body) s = exec c s

/-- The bytes of any envelope with an in-range LEN do what its DAMAGED_FRAME command does, whatever
the two CRC bytes.
With an agreeing CRC that command is the good frame (the model's choice, notes/assumptions 14). -/
def Obligations.BytesMakeTheEnvelope : Prop :=
  ∀ (body : List Byte) (crc : BitVec 16) (s : State), 1 ≤ body.length → body.length ≤ 40 →
    Settled s → s.rx = .hunt →
    feedUplink (0xC5#8 :: BitVec.ofNat 8 body.length :: (body ++ bytes16 crc)) s =
      exec (.damagedFrame body crc) s

/-- Reading a frame's bytes gives the frame back, and a frame that is read has those bytes. -/
def Obligations.FrameLayoutsReadBack : Prop :=
  (∀ f : HostFrame, frameBounded f = true → decodeFrame f.body = some f) ∧
  ∀ (body : List Byte) (f : HostFrame), decodeFrame body = some f →
    f.body = body ∧ frameBounded f = true

/-- The CRC register run on over the covered bytes and the two CRC bytes ends at 0000h, and no other
two bytes bring it there. -/
def Obligations.CrcResidue : Prop :=
  ∀ (bytes : List Byte) (crc : BitVec 16),
    crc16 (bytes ++ bytes16 crc) = 0 ↔ crc = crc16 bytes

/-! ### Link, stream state and accepted count -/

/-- What every good frame does by its reception, which is all that FILL does. -/
def Obligations.FillActsByReception : Prop :=
  ∀ s : State, s.resetHeld = false →
    exec .fill s = .next (endEvent (frameReceived s)) ∧
    frameReceived s =
      { s with
        rx := .hunt
        link := .live
        silenceTimer :=
          if s.silenceCode = 0 then s.silenceTimer else some (10 * s.silenceCode.toNat)
        streamPending := if s.link = .quiet then true else s.streamPending }

/-- The silence timer expires: the link becomes QUIET, and a stream in RUN holds with SILENCE; the
link that becomes LIVE again leaves the stream as it is. -/
def Obligations.SilenceExpiry : Prop :=
  ∀ (n : Nat) (s : State), s.resetHeld = false → s.silenceTimer = some n →
    ((frameReceived s).link = .live ∧ (frameReceived s).stream = s.stream) ∧
    (s.stream = .run →
      exec .silenceTimerExpiry s =
        .next (endEvent
          { bump .holdEntry s with
            link := .quiet, silenceTimer := none, stream := .hold .silence,
            streamPending := true })) ∧
    ∀ k, s.stream = .hold k →
      exec .silenceTimerExpiry s =
        .next (endEvent
          { s with
            link := .quiet
            silenceTimer := none
            streamPending := if s.link = .live then true else s.streamPending })

/-- A counted frame in HOLD is discarded whatever its stamp. -/
def Obligations.CountedFrameInHold : Prop :=
  ∀ (c : Instr) (stamp : Count) (k : HoldCause) (s : State), countedStamp c = some stamp →
    c.carried = true → s.resetHeld = false → s.stream = .hold k →
    exec c s =
      .next (endEvent { bump .heldDiscard (frameReceived s) with streamPending := true })

/-- A counted frame behind AC in RUN is a duplicate. -/
def Sys2Proof.Claim.DuplicateFrame : Prop :=
  ∀ (c : Instr) (stamp : Count) (s : State), countedStamp c = some stamp →
    c.carried = true → s.resetHeld = false → s.stream = .run →
    1 ≤ (s.ac - stamp).toNat → (s.ac - stamp).toNat ≤ 32767 →
    exec c s = .next (endEvent (bump .duplicate (frameReceived s)))

/-- A counted frame ahead of AC in RUN holds the stream with GAP. -/
def Sys2Proof.Claim.FrameAhead : Prop :=
  ∀ (c : Instr) (stamp : Count) (s : State), countedStamp c = some stamp →
    c.carried = true → s.resetHeld = false → s.stream = .run →
    1 ≤ (stamp - s.ac).toNat → (stamp - s.ac).toNat ≤ 32768 →
    exec c s =
      .next (endEvent
        { bump .holdEntry (frameReceived s) with stream := .hold .gap, streamPending := true })

/-- A counted frame in RUN whose stamp is not AC. -/
def Obligations.CountedFrameNotAtAC : Prop :=
  Sys2Proof.Claim.DuplicateFrame ∧ Sys2Proof.Claim.FrameAhead

/-- A RESUME that is accepted in HOLD. -/
def Sys2Proof.Claim.ResumeAccepted : Prop :=
  ∀ (count : Count) (k : HoldCause) (s : State), s.resetHeld = false → s.stream = .hold k →
    (count = s.ac →
      exec (.resumeContinue count) s =
        .next (endEvent { frameReceived s with stream := .run, streamPending := true })) ∧
    ((count - s.ac).toNat ≤ 32767 →
      exec (.resumeRebase count) s =
        .next (endEvent
          { frameReceived s with ac := count, stream := .run, streamPending := true }))

/-- A RESUME that cannot be accepted: MISDIRECTED and STREAM pending, and no stream state changes. -/
def Sys2Proof.Claim.ResumeRefused : Prop :=
  ∀ (count : Count) (s : State), s.resetHeld = false →
    ∀ u, u = { bump .misdirected (frameReceived s) with streamPending := true } →
      (s.stream = .run ∨ count ≠ s.ac → exec (.resumeContinue count) s = .next (endEvent u)) ∧
      (s.stream = .run ∨ 32768 ≤ (count - s.ac).toNat →
        exec (.resumeRebase count) s = .next (endEvent u)) ∧
      ∀ mode : Byte, 2 ≤ mode.toNat →
        exec (.resumeUnknownMode mode count) s = .next (endEvent u)

/-- RESUME, accepted or refused. -/
def Obligations.Resume : Prop :=
  Sys2Proof.Claim.ResumeAccepted ∧ Sys2Proof.Claim.ResumeRefused

/-- RESTART restarts every block and keeps the configuration, the tallies, the link, the receivers
and the frame in transmission. -/
def Obligations.Restart : Prop :=
  ∀ s : State, s.resetHeld = false →
    exec .restart s =
      .next (endEvent
        { frameReceived s with
          tallies :=
            match s.stream with
            | .run => (bump .holdEntry s).tallies
            | .hold _ => s.tallies
          ac := 0
          stream := .hold .restarted
          streamPending := true
          free := 96
          poolLow := false
          ports := Vector.replicate 16 (State.reset.port 0)
          fences := Vector.replicate 4 .free
          bus :=
            match s.bus with
            | .sending t => .quiet t.replyTimeout (drivenFrame s)
            | .awaiting t _ => .quiet t.replyTimeout none
            | b => b
          urgentPtr := 0
          normalPtr := 0
          scan := .inactive
          nextIndex := 0
          alternation := false
          reports := []
          reservations := 0
          nextRC := 0
          ring := []
          slot := none
          flowPending := false
          progressPending := false
          turn := .progress
          decisionDue := false })

/-! ### Admission at AC in RUN -/

/-- SEND, CALL and FETCH at AC in RUN: the four checks in their order, and the job that joins the
tail of its port. -/
def Obligations.JobAdmission : Prop :=
  ∀ (k : JobKind) (port : Byte) (data : List Byte) (s : State), s.resetHeld = false →
    s.stream = .run → data.length ≤ 24 →
    ∀ (u : State) (run : Host.Outcome State Fault Refusal), u = frameReceived s →
      run = exec (jobCommand k s.ac port data) s →
      (16 ≤ port.toNat → run = .next (endEvent (rejected s.ac k.code .badPort u))) ∧
      ∀ p : PortNo, port.toNat = p.val →
        ((s.port p).state = .closed ∨ (∃ c, (s.port p).state = .closing c) →
          run = .next (endEvent (rejected s.ac k.code .notOpen u))) ∧
        ((s.port p).state = .opened ∨ (∃ f, (s.port p).state = .faulted f) →
          ((s.port p).params.quota.toNat ≤ (s.port p).queue.length →
            run = .next (endEvent (refusedFor .quota u))) ∧
          ((s.port p).queue.length < (s.port p).params.quota.toNat →
            (s.free = 0 → run = .next (endEvent (refusedFor .pool u))) ∧
            (0 < s.free →
              run = .next (endEvent (admitted (fun v =>
                { modPort p (fun x => { x with queue := x.queue ++ [.job k s.ac data 0 0] }) v with
                  free := v.free - 1
                  decisionDue := v.decisionDue || (s.port p).queue.isEmpty }) u)))))

/-- FENCE at AC in RUN: the five checks in their order, and the placing of an admitted fence. -/
def Obligations.FenceAdmission : Prop :=
  ∀ (m : PortSet) (s : State), s.resetHeld = false → s.stream = .run →
    ∀ (u : State) (run : Host.Outcome State Fault Refusal), u = frameReceived s →
      run = exec (.fence s.ac m) s →
      ((members m).length < 2 ∨
          (∃ p ∈ members m,
            (s.port p).state = .closed ∨ ∃ c, (s.port p).state = .closing c) →
        run = .next (endEvent (rejected s.ac 0x24#8 .badMembers u))) ∧
      (2 ≤ (members m).length →
        (∀ p ∈ members m, (s.port p).state = .opened ∨ ∃ f, (s.port p).state = .faulted f) →
        ((∀ i, s.fence i ≠ .free) → run = .next (endEvent (refusedFor .fenceTable u))) ∧
        ((∃ i, s.fence i = .free) →
          ((∃ p ∈ members m, (s.port p).params.quota.toNat ≤ (s.port p).queue.length) →
            run = .next (endEvent (refusedFor .quota u))) ∧
          ((∀ p ∈ members m, (s.port p).queue.length < (s.port p).params.quota.toNat) →
            (s.free < (members m).length → run = .next (endEvent (refusedFor .pool u))) ∧
            ((members m).length ≤ s.free →
              (32 ≤ entriesInUse s → run = .next (endEvent (refusedFor .reports u))) ∧
              (entriesInUse s < 32 →
                run = .next (endEvent (admitted (placeFence s.ac m) u)))))))

/-- The placing of a fence: the lowest FREE entry, one reservation, one slot and one marker for each
member, then arrival and any release. -/
def Sys2Proof.Claim.FencePlacing : Prop :=
  ∀ (stamp : Count) (m : PortSet) (i : FenceNo) (s : State), s.fence i = .free →
    (∀ j, j < i → s.fence j ≠ .free) →
    ∃ v : State,
      placeFence stamp m s = settleFences v ∧
      v.fence i = .gathering ⟨stamp, m, 0#16⟩ ∧ (∀ j, j ≠ i → v.fence j = s.fence j) ∧
      v.free = s.free - (members m).length ∧
      (∀ p, v.port p =
        if m.getLsbD p.val then { s.port p with queue := (s.port p).queue ++ [.marker stamp i] }
        else s.port p) ∧
      v = { s with
        ports := v.ports, fences := v.fences, free := v.free,
        reservations := s.reservations + 1, decisionDue := v.decisionDue } ∧
      v.decisionDue =
        (s.decisionDue || (members m).any fun p => (s.port p).queue.isEmpty)

/-- The release of a fence whose markers stand at the heads of all its members. -/
def Sys2Proof.Claim.FenceRelease : Prop :=
  ∀ (i : FenceNo) (g : Gathering) (s : State), s.fence i = .gathering g →
    (∀ p, g.members.getLsbD p.val = true → headIsMarker s i p = true) → g.members ≠ 0 →
    ∃ t, releaseFence i s = t ∧
      (∀ p, t.port p =
        if g.members.getLsbD p.val then
          { s.port p with
            queue := (s.port p).queue.tail, settled := g.stamp, dirty := true }
        else s.port p) ∧
      t = { s with
        ports := t.ports
        fences := s.fences.set i.val .free i.isLt
        free := s.free + (members g.members).length
        progressPending := true
        reservations := s.reservations - 1
        reports := s.reports ++ [⟨s.nextRC, .fence g.stamp g.members .released⟩]
        nextRC := s.nextRC + 1
        decisionDue := true }

/-- The placing of an admitted fence and the release of a complete one. -/
def Obligations.FencePlacingAndRelease : Prop :=
  Sys2Proof.Claim.FencePlacing ∧ Sys2Proof.Claim.FenceRelease

/-- MARK at AC in RUN. -/
def Obligations.MarkAdmission : Prop :=
  ∀ (echo : Byte) (s : State), s.resetHeld = false → s.stream = .run →
    ∀ u, u = frameReceived s →
      (2 ≤ echo.toNat →
        exec (.mark s.ac echo) s =
          .next (endEvent (rejected s.ac 0x25#8 .badParam u))) ∧
      (echo = 0 → exec (.mark s.ac echo) s = .next (endEvent { u with ac := s.ac + 1 })) ∧
      (echo = 1 → 32 ≤ entriesInUse s →
        exec (.mark s.ac echo) s = .next (endEvent (refusedFor .reports u))) ∧
      (echo = 1 → entriesInUse s < 32 →
        exec (.mark s.ac echo) s =
          .next (endEvent
            { u with
              ac := s.ac + 1
              reports := s.reports ++ [⟨s.nextRC, .echo s.ac⟩]
              nextRC := s.nextRC + 1 }))

/-- SETUP at AC in RUN: both values in range or a rejection, and three values written. -/
def Sys2Proof.Claim.SetupAdmission : Prop :=
  ∀ (code reserve enable : Byte) (s : State), s.resetHeld = false → s.stream = .run →
    ∀ u, u = frameReceived s →
      (95 < reserve.toNat ∨ 2 ≤ enable.toNat →
        exec (.setup s.ac code reserve enable) s =
          .next (endEvent (rejected s.ac 0x28#8 .badParam u))) ∧
      (reserve.toNat ≤ 95 → enable.toNat ≤ 1 →
        exec (.setup s.ac code reserve enable) s =
          .next (endEvent (admitted (fun v =>
            writeScanEnable (enable == 1)
              { v with
                silenceCode := code
                silenceTimer := if code = 0 then none else some (10 * code.toNat)
                poolReserve := reserve }) u)))

/-- A write of the scan enable, by the scan state it finds. -/
def Sys2Proof.Claim.ScanEnableWrite : Prop :=
  ∀ (on : Bool) (s : State),
    (on = s.scanEnable → writeScanEnable on s = s) ∧
    (on = true → s.scanEnable = false →
      writeScanEnable on s = { s with scanEnable := true, decisionDue := true }) ∧
    (on = false → s.scanEnable = true →
      ((s.scan = .running ∧
          ((∃ t, s.bus = .sending t ∧ t.kind = .poll) ∨
            ∃ t d, s.bus = .awaiting t d ∧ t.kind = .poll)) →
        writeScanEnable on s = { s with scanEnable := false, decisionDue := true }) ∧
      (¬ (s.scan = .running ∧
          ((∃ t, s.bus = .sending t ∧ t.kind = .poll) ∨
            ∃ t d, s.bus = .awaiting t d ∧ t.kind = .poll)) →
        writeScanEnable on s =
          { s with
            scanEnable := false, scan := .inactive, nextIndex := 0, alternation := false,
            decisionDue := true }))

/-- SETUP at AC in RUN, and what the write of the scan enable does to the scan. -/
def Obligations.SetupAndScanEnable : Prop :=
  Sys2Proof.Claim.SetupAdmission ∧ Sys2Proof.Claim.ScanEnableWrite

/-- OPEN at AC in RUN: the four checks in their order, and the port that opens. -/
def Obligations.OpenAdmission : Prop :=
  ∀ (port : Byte) (x : OpenParams) (s : State), s.resetHeld = false → s.stream = .run →
    ∀ (u : State) (run : Host.Outcome State Fault Refusal), u = frameReceived s →
      run = exec (.openPort s.ac port x) s →
      (16 ≤ port.toNat → run = .next (endEvent (rejected s.ac 0x26#8 .badPort u))) ∧
      ∀ p : PortNo, port.toNat = p.val →
        ((s.port p).state ≠ .closed →
          run = .next (endEvent (rejected s.ac 0x26#8 .notClosed u))) ∧
        ((s.port p).state = .closed →
          ∀ inRange : Prop,
            (inRange ↔
              (1 ≤ x.address.toNat ∧ x.address.toNat ≤ 30 ∧
                1 ≤ x.quota.toNat ∧ x.quota.toNat ≤ 96 ∧
                1 ≤ x.highMark.toNat ∧ x.highMark.toNat ≤ x.quota.toNat ∧
                x.lowMark.toNat < x.highMark.toNat ∧
                1 ≤ x.replyTimeout.toNat ∧ x.retries.toNat ≤ 7 ∧ 1 ≤ x.busyWait.toNat ∧
                x.busyLimit.toNat ≤ 15 ∧ x.urgent.toNat ≤ 1 ∧ x.listen.toNat ≤ 1)) →
            (¬ inRange → run = .next (endEvent (rejected s.ac 0x26#8 .badParam u))) ∧
            (inRange →
              ((∃ q, q ≠ p ∧ (s.port q).state ≠ .closed ∧
                  (s.port q).params.address = x.address) →
                run = .next (endEvent (rejected s.ac 0x26#8 .addrTaken u))) ∧
              ((∀ q, q ≠ p → (s.port q).state ≠ .closed →
                  (s.port q).params.address ≠ x.address) →
                run = .next (endEvent
                  { modPort p (fun y => { y with
                      state := .opened, params := x, busyWait := none, settled := s.ac,
                      dirty := true }) u with
                    progressPending := true
                    ac := s.ac + 1 }))))

/-- CLOSE at AC in RUN, in each of its three rows: the checks in their order, and the close that an
accepted one hands to the Port Controller. -/
def Obligations.CloseAdmission : Prop :=
  ∀ (port : Byte) (s : State), s.resetHeld = false → s.stream = .run →
    ∀ u, u = frameReceived s →
      (16 ≤ port.toNat → ∀ c, c = .closeFinish s.ac port ∨ c = .closeDiscard s.ac port ∨
          (∃ mode, c = .closeUnknownMode s.ac port mode) →
        exec c s = .next (endEvent (rejected s.ac 0x27#8 .badPort u))) ∧
      ∀ p : PortNo, port.toNat = p.val →
        (∀ mode : Byte, 2 ≤ mode.toNat →
          exec (.closeUnknownMode s.ac port mode) s =
            .next (endEvent (rejected s.ac 0x27#8 .badParam u))) ∧
        ∀ (c : Instr) (mode : CloseMode),
          (c = .closeFinish s.ac port ∧ mode = .finish) ∨
            (c = .closeDiscard s.ac port ∧ mode = .discard) →
          ((s.port p).state = .closed →
            exec c s = .next (endEvent (rejected s.ac 0x27#8 .notOpen u))) ∧
          ((s.port p).state = .opened ∨ (∃ f, (s.port p).state = .faulted f) →
            (32 ≤ entriesInUse s → exec c s = .next (endEvent (refusedFor .reports u))) ∧
            (entriesInUse s < 32 →
              exec c s = .next (endEvent (admitted (closeEffect p mode s.ac) u)))) ∧
          ∀ k, (s.port p).state = .closing k →
            (k.mode = .finish ∧ mode = .discard →
              exec c s = .next (endEvent (admitted (closeEffect p mode s.ac) u))) ∧
            (k.mode = .discard ∨ mode = .finish →
              exec c s = .next (endEvent (rejected s.ac 0x27#8 .notOpen u)))

/-! ### Ports -/

/-- An accepted CLOSE takes effect under the state of its port: a FINISH close keeps the queue, the
others discard it, and the close ends at once where nothing is left. -/
def Obligations.CloseEffects : Prop :=
  ∀ (p : PortNo) (stamp : Count) (s : State),
    (discarded s p = [] → lastDiscarded s p = none) ∧
    (∀ earlier it, discarded s p = earlier ++ [it] → lastDiscarded s p = some it.stamp) ∧
    ((s.port p).state = .opened →
      closeEffect p .finish stamp s =
        closeDonePorts none
          { modPort p (fun x => { x with state := .closing ⟨.finish, stamp, 0, none⟩ }) s with
            reservations := s.reservations + 1 }) ∧
    ((s.port p).state = .opened →
      closeEffect p .discard stamp s =
        afterHeads none
          (modPort p (fun x => { x with
              state := .closing ⟨.discard, stamp, (discarded s p).length, lastDiscarded s p⟩,
              busyWait := none })
            (discardQueue p .closeDiscard
              { modPort p (fun x => { x with state := .closing ⟨.discard, stamp, 0, none⟩ }) s with
                reservations := s.reservations + 1 }))) ∧
    (∀ f mode, (s.port p).state = .faulted f →
      closeEffect p mode stamp s =
        afterHeads (some (p, .closedFaulted))
          (modPort p (fun x => { x with
              state := .closing ⟨.discard, stamp, (discarded s p).length, lastDiscarded s p⟩ })
            (discardQueue p .closedFaulted
              { modPort p (fun x => { x with state := .closing ⟨.discard, stamp, 0, none⟩ }) s with
                reservations := s.reservations + 1 }))) ∧
    ∀ first, (s.port p).state = .closing ⟨.finish, first, 0, none⟩ →
      closeEffect p .discard stamp s =
        afterHeads none
          (modPort p (fun x => { x with
              state := .closing ⟨.discard, first, (discarded s p).length, lastDiscarded s p⟩,
              busyWait := none })
            (discardQueue p .closeDiscard
              (modPort p (fun x => { x with state := .closing ⟨.discard, first, 0, none⟩ }) s)))

/-- The whole-queue discard of a port: an in-flight head alone stays; every fence whose marker goes
is broken by this port, lowest index first, its other markers leaving with it, with a BROKEN report
and the code of the reason; each item gone returns its slot; a decision is due where a head has
changed; and nothing else changes. -/
def Obligations.WholeQueueDiscard : Prop :=
  ∀ (p : PortNo) (reason : BreakReason) (s t : State) (broken : List FenceNo),
    PoolConserved s →
    (∀ i g, s.fence i = .gathering g → g.members.getLsbD p.val = true →
      ∀ q, g.members.getLsbD q.val = false → ∀ it ∈ (s.port q).queue, it.isMarkerOf i = false) →
    (∀ i, (∃ it ∈ discarded s p, it.isMarkerOf i = true) →
      ∃ g, s.fence i = .gathering g ∧ g.members.getLsbD p.val = true) →
    broken = allFences.filter (fun i => (discarded s p).any (Item.isMarkerOf i)) →
    t = discardQueue p reason s →
    (jobInFlight s p = true ↔ ∃ x : Transaction, (s.bus = .sending x ∨ ∃ d, s.bus = .awaiting x d) ∧
      x.port = p ∧ ∃ k, x.kind = .job k) ∧
    (∀ (it : Item) (i : FenceNo), it.isMarkerOf i = true ↔ ∃ stamp, it = .marker stamp i) ∧
    (jobInFlight s p = false → kept s p = []) ∧
    (jobInFlight s p = true → kept s p = (s.port p).queue.take 1) ∧
    (t.port p).queue = kept s p ∧ (s.port p).queue = kept s p ++ discarded s p ∧
    (∀ q, q ≠ p →
      (t.port q).queue =
        (s.port q).queue.filter (fun it => broken.all fun i => !it.isMarkerOf i)) ∧
    PoolConserved t ∧
    (∀ i, t.fence i = if i ∈ broken then .free else s.fence i) ∧
    t.reports.map Report.body =
      s.reports.map Report.body ++
        broken.filterMap (fun i =>
          match s.fence i with
          | .free => none
          | .gathering g => some (.fence g.stamp g.members (.broken p reason))) ∧
    t.reports.take s.reports.length = s.reports ∧
    (∀ n i g, broken[n]? = some i → s.fence i = .gathering g →
      t.reports[s.reports.length + n]? =
        some ⟨s.nextRC + BitVec.ofNat 16 n, .fence g.stamp g.members (.broken p reason)⟩) ∧
    (∀ code : Byte,
      (reason, code) ∈ [(.flush, 1#8), (.closeDiscard, 2#8), (.closedFaulted, 3#8),
        (.failedWhileClosing, 4#8)] →
      ∀ stamp m, (ReportBody.fence stamp m (.broken p reason)).bytes =
        bytes16 stamp ++ bytes16 m ++ [1#8, BitVec.ofNat 8 p.val, code]) ∧
    t.decisionDue =
      (s.decisionDue ||
        (!jobInFlight s p && !(s.port p).queue.isEmpty) ||
        allPorts.any (fun q =>
          decide (q ≠ p) && broken.any fun i => headIsMarker s i q)) ∧
    t.nextRC = s.nextRC + BitVec.ofNat 16 broken.length ∧
    t.reservations = s.reservations - broken.length ∧
    (∀ q, t.port q = { s.port q with queue := (t.port q).queue }) ∧
    t = { s with
      ports := t.ports, free := t.free, fences := t.fences, reports := t.reports,
      nextRC := t.nextRC, reservations := t.reservations, decisionDue := t.decisionDue }

/-- A CLOSING port with an empty queue and no job in flight reaches CLOSED, and no other port does; the
ports of an event do so in ascending order, after the event's releases. -/
def Obligations.ReachingClosed : Prop :=
  ∀ (p : PortNo) (special : Option (PortNo × ClosedCause)) (s : State),
    (∀ c, (s.port p).state = .closing c → (s.port p).queue = [] → jobInFlight s p = false →
      ∀ cause : ClosedCause,
        (∀ x, special = some (p, x) → cause = x) →
        ((∀ x, special ≠ some (p, x)) → c.mode = .finish → cause = .finished) →
        ((∀ x, special ≠ some (p, x)) → c.mode = .discard → cause = .discarded) →
        closeIfDone special s p =
          { modPort p (fun x =>
              { x with state := .closed, busyWait := none, congested := false }) s with
            flowPending := s.flowPending || (s.port p).congested
            reservations := s.reservations - 1
            reports := s.reports ++ [⟨s.nextRC, .closed p c.stamp cause c.count c.last⟩]
            nextRC := s.nextRC + 1 }) ∧
    ((∀ c, (s.port p).state ≠ .closing c) ∨ (s.port p).queue ≠ [] ∨ jobInFlight s p = true →
      closeIfDone special s p = s) ∧
    (∀ c, ((closeDonePorts special s).port p).state = .closing c →
      ((closeDonePorts special s).port p).queue ≠ [] ∨
        jobInFlight (closeDonePorts special s) p = true) ∧
    closeDonePorts special s = (List.finRange 16).foldl (closeIfDone special) s ∧
    afterHeads special s = closeDonePorts special (settleFences s)

/-- The flags at the end of an event: the congestion flag of each port whose occupancy changed, the
pool-low flag where the free count or the reserve changed, FLOW where a flag differs from its value
before the event, and nothing else.
Evaluation by the difference is the model's reading (notes/assumptions 18). -/
def Obligations.FlagEvaluation : Prop :=
  ∀ (f : State → State) (s t g : State), g = f s → t = withFlags f s →
    (∀ p,
      t.port p =
        { g.port p with
          congested :=
            if (g.port p).queue.length = (s.port p).queue.length ∨ (g.port p).state = .closed then
              (g.port p).congested
            else if (g.port p).params.highMark.toNat ≤ (g.port p).queue.length then true
            else if (g.port p).queue.length ≤ (g.port p).params.lowMark.toNat then false
            else (g.port p).congested }) ∧
    t.poolLow =
      (if g.free = s.free ∧ g.poolReserve = s.poolReserve then g.poolLow
      else decide (g.free ≤ g.poolReserve.toNat)) ∧
    t.flowPending =
      (g.flowPending ||
        allPorts.any (fun p =>
          decide ((g.port p).queue.length ≠ (s.port p).queue.length ∧
            (g.port p).state ≠ .closed ∧ (t.port p).congested ≠ (s.port p).congested)) ||
        decide (¬ (g.free = s.free ∧ g.poolReserve = s.poolReserve) ∧ t.poolLow ≠ s.poolLow)) ∧
    t = { g with ports := t.ports, poolLow := t.poolLow, flowPending := t.flowPending }

/-- TEND on a FAULTED port: RETRY restarts the failed head's counters, SKIP settles it, FLUSH
discards the queue; the port becomes OPEN. -/
def Sys2Proof.Claim.TendActs : Prop :=
  ∀ (port : Byte) (p : PortNo) (f : FaultCause) (s : State), s.resetHeld = false →
    port.toNat = p.val → (s.port p).state = .faulted f →
    (∀ k st d a b rest, (s.port p).queue = .job k st d a b :: rest →
      exec (.tendRetry port) s =
        .next (endEvent
          { modPort p (fun x => { x with state := .opened, queue := .job k st d 0 0 :: rest })
              (frameReceived s) with
            decisionDue := true })) ∧
    (∀ it rest, (s.port p).queue = it :: rest →
      exec (.tendSkip port) s =
        .next (endEvent (withFlags (fun v =>
          callArbiter (afterHeads none
            { modPort p (fun x => { x with
                state := .opened, queue := rest, settled := it.stamp, dirty := true }) v with
              free := v.free + 1
              progressPending := true
              decisionDue := true })) (frameReceived s)))) ∧
    exec (.tendFlush port) s =
      .next (endEvent (withFlags (fun v =>
        callArbiter (afterHeads none
          (discardQueue p .flush (modPort p (fun x => { x with state := .opened }) v))))
        (frameReceived s)))

/-- A TEND that does not act is tallied as MISDIRECTED and changes nothing else. -/
def Sys2Proof.Claim.TendMisdirected : Prop :=
  ∀ (port : Byte) (s : State), s.resetHeld = false →
    ∀ u, u = bump .misdirected (frameReceived s) →
      (16 ≤ port.toNat ∨
          (∃ p : PortNo, port.toNat = p.val ∧ ∀ f, (s.port p).state ≠ .faulted f) →
        exec (.tendRetry port) s = .next (endEvent u) ∧
        exec (.tendSkip port) s = .next (endEvent u) ∧
        exec (.tendFlush port) s = .next (endEvent u)) ∧
      ∀ action : Byte, 3 ≤ action.toNat →
        exec (.tendUnknownAction port action) s = .next (endEvent u)

/-- TEND, acting or misdirected. -/
def Obligations.Tend : Prop :=
  Sys2Proof.Claim.TendActs ∧ Sys2Proof.Claim.TendMisdirected

/-- A job failure under the state of its port: an OPEN port becomes FAULTED with its queue as it is;
a CLOSING port loses the failed head uncounted, discards the rest into its close, and closes. -/
def Sys2Proof.Claim.FailureUnderPortState : Prop :=
  ∀ (p : PortNo) (cause : FaultCause) (s : State),
    ((s.port p).state = .opened →
      jobFailsPort p cause s = modPort p (fun x => { x with state := .faulted cause }) s) ∧
    ∀ (c : Closing) (it : Item) (rest : List Item) (v : State), (s.port p).state = .closing c →
      (s.port p).queue = it :: rest → jobInFlight s p = false →
      v = { modPort p (fun x => { x with queue := rest }) s with
        free := s.free + 1, decisionDue := true } →
      jobFailsPort p cause s =
        afterHeads (some (p, .failedWhileClosing))
          (modPort p (fun x => { x with
              state := .closing
                { c with
                  count := c.count + rest.length
                  last := (rest.getLast?.map Item.stamp).or c.last } })
            (discardQueue p .failedWhileClosing v))

/-- A waiting outcome under the state of its port: nothing changes, but a port CLOSING in DISCARD
mode removes the job as a discard and closes. -/
def Sys2Proof.Claim.WaitUnderPortState : Prop :=
  ∀ (p : PortNo) (s : State),
    ((∀ c, (s.port p).state = .closing c → c.mode = .finish) → jobWaits p s = s) ∧
    ∀ (c : Closing) (it : Item) (rest : List Item), (s.port p).state = .closing c →
      c.mode = .discard → (s.port p).queue = it :: rest →
      jobWaits p s =
        closeDonePorts none
          { modPort p (fun x => { x with
              queue := rest,
              state := .closing
                { c with count := c.count + 1, last := c.last.or (some it.stamp) } }) s with
            free := s.free + 1
            decisionDue := true }

/-- A failure and a waiting outcome under the state of the port. -/
def Obligations.OutcomeUnderPortState : Prop :=
  Sys2Proof.Claim.FailureUnderPortState ∧ Sys2Proof.Claim.WaitUnderPortState

/-! ### Fences -/

/-- Arrival: each member whose head is the marker of the entry joins its arrived set, and nothing else
changes. -/
def Sys2Proof.Claim.Arrival : Prop :=
  ∀ s : State,
    (∀ i p, headIsMarker s i p = true ↔ ∃ stamp rest, (s.port p).queue = .marker stamp i :: rest) ∧
    arrive s = { s with fences := (arrive s).fences } ∧
    (∀ i, s.fence i = .free → (arrive s).fence i = .free) ∧
    ∀ i g, s.fence i = .gathering g →
      ∃ a : PortSet, (arrive s).fence i = .gathering { g with arrived := a } ∧
        ∀ p : PortNo, a.getLsbD p.val =
          (g.arrived.getLsbD p.val || (g.members.getLsbD p.val && headIsMarker s i p))

/-- The releases of an event: while some entry is complete after arrival, the lowest one is released,
and the rest follows; with none complete, arrival is all. -/
def Sys2Proof.Claim.ReleaseOrder : Prop :=
  ∀ s : State,
    ((∀ i g, (arrive s).fence i = .gathering g → g.arrived ≠ g.members) →
      settleFences s = arrive s) ∧
    ∀ i g, (arrive s).fence i = .gathering g → g.arrived = g.members →
      (∀ j h, j < i → (arrive s).fence j = .gathering h → h.arrived ≠ h.members) →
      settleFences s = settleFences (releaseFence i (arrive s))

/-- After the releases of an event no fence is complete, every arrived set has taken in the members
whose head is the marker, no fence is broken or created, and a second round would change nothing. -/
def Sys2Proof.Claim.NoneComplete : Prop :=
  ∀ s : State,
    (∀ i g, (settleFences s).fence i = .gathering g →
      g.arrived ≠ g.members ∧
      (∀ p, g.members.getLsbD p.val = true → headIsMarker (settleFences s) i p = true →
        g.arrived.getLsbD p.val = true) ∧
      ∃ a, s.fence i = .gathering { g with arrived := a }) ∧
    (∀ i, s.fence i = .free → (settleFences s).fence i = .free) ∧
    settleFences (settleFences s) = settleFences s

/-- Arrival, the releases lowest entry first, and what they leave. -/
def Obligations.ReleasesLeaveNoneComplete : Prop :=
  Sys2Proof.Claim.Arrival ∧ Sys2Proof.Claim.ReleaseOrder ∧ Sys2Proof.Claim.NoneComplete

/-! ### Tributary bus -/

/-- The end of sending of a POST frame settles its SEND. -/
def Sys2Proof.Claim.PostSent : Prop :=
  ∀ (t : Transaction) (it : Item) (rest : List Item) (s : State), s.resetHeld = false →
    s.bus = .sending t → t.kind = .job .send → (s.port t.port).queue = it :: rest →
    exec .sendEndOfSending s =
      .next (endEvent (withFlags (fun v =>
        afterHeads none
          { modPort t.port (fun x => { x with
              queue := rest, settled := it.stamp, dirty := true }) v with
            bus := .idle
            free := v.free + 1
            progressPending := true
            decisionDue := true }) s))

/-- The end of sending of a COMMAND or POLL frame: the reply is awaited with the deadline running. -/
def Sys2Proof.Claim.CommandSent : Prop :=
  ∀ (t : Transaction) (s : State), s.resetHeld = false → s.bus = .sending t →
    (t.kind = .job .call ∨ t.kind = .job .fetch →
      exec .commandEndOfSending s = .next (endEvent { s with bus := .awaiting t .running })) ∧
    (t.kind = .poll →
      exec .pollEndOfSending s = .next (endEvent { s with bus := .awaiting t .running }))

/-- The frame the hub drives onto the pair in SENDING, by the kind of the transaction: POST, COMMAND
or POLL, to the record's address, with the data of the head job in order; its characters bit by bit;
and in any other bus state no frame but one of which a character is being finished.
A frame is sent as a whole (the model's choice, notes/assumptions 27). -/
def Sys2Proof.Claim.FrameDriven : Prop :=
  ∀ (s : State),
    (∀ (t : Transaction) (frame : Byte → List Byte → List Byte), s.bus = .sending t →
      (∀ kind data, frame kind data =
        0xA3#8 :: t.address :: kind :: BitVec.ofNat 8 data.length ::
          (data ++ bytes16 (crc16 (t.address :: kind :: BitVec.ofNat 8 data.length :: data)))) →
      (∀ k st data a b rest, (s.port t.port).queue = .job k st data a b :: rest →
        (t.kind = .job .send → drivenFrame s = some (frame 0x02#8 data)) ∧
        (t.kind = .job .call ∨ t.kind = .job .fetch → drivenFrame s = some (frame 0x01#8 data))) ∧
      (t.kind = .poll → drivenFrame s = some (frame 0x03#8 []))) ∧
    (∀ bytes, drivenFrame s = some bytes →
      ∀ i b, bytes[i]? = some b →
        drivenLevel s (10 * i) = some false ∧
        (∀ j, j < 8 → drivenLevel s (10 * i + 1 + j) = some (b.getLsbD j)) ∧
        drivenLevel s (10 * i + 9) = some true) ∧
    (∀ n frame, s.bus = .quiet n frame → drivenFrame s = frame) ∧
    (s.bus = .idle ∨ (∃ t d, s.bus = .awaiting t d) → drivenFrame s = none) ∧
    (tbdir s = false → ∀ k, drivenLevel s k = none) ∧
    (tbdir s = true ↔ (∃ t, s.bus = .sending t) ∨ ∃ n f, s.bus = .quiet n (some f))

/-- A RESTART in SENDING, in the bit time `r` of the frame: the character under way, and no other bit
of the frame, is driven on the QUIET bus, and at its end the pair is released.
The bit time is given by the reader, since the model keeps none (notes/assumptions 27). -/
def Sys2Proof.Claim.CharacterFinished : Prop :=
  ∀ (t : Transaction) (s : State), s.resetHeld = false → s.bus = .sending t →
    ∃ (frame : List Byte) (u v : State),
      drivenFrame s = some frame ∧ exec .restart s = .next u ∧
      u.bus = .quiet t.replyTimeout (some frame) ∧ tbdir u = true ∧
      (∀ r k, (k / 10 = r / 10 → abandonedLevel r u k = drivenLevel s k) ∧
        (k / 10 ≠ r / 10 → abandonedLevel r u k = none)) ∧
      exec .abandonedCharacterEnd u = .next v ∧
      v.bus = .quiet t.replyTimeout none ∧ tbdir v = false ∧ ∀ r k, abandonedLevel r v k = none

/-- The frame the hub drives while SENDING, the character a RESTART lets finish, and the end of sending
of each kind of frame.
A frame is sent as a whole (the model's choice, notes/assumptions 27). -/
def Obligations.EndOfSending : Prop :=
  Sys2Proof.Claim.FrameDriven ∧ Sys2Proof.Claim.CharacterFinished ∧ Sys2Proof.Claim.PostSent ∧
    Sys2Proof.Claim.CommandSent

/-- The START byte, the byte after it and the end of the frame before it, against the reply
deadline.
DEADLINE_MET may carry the START alone (the model's choice, notes/assumptions 12). -/
def Obligations.DeadlineAndAddress : Prop :=
  ∀ (t : Transaction) (d : Deadline) (s : State), s.resetHeld = false → s.bus = .awaiting t d →
    (s.tribRx = .hunt →
      exec (.deadlineMet none) s = .next (endEvent { s with tribRx := .inFrame [] }) ∧
      ∀ a, exec (.deadlineMet (some a)) s =
        runCommands [.deadlineMet none, .tributaryDamagedFrame [⟨a, false⟩]] s) ∧
    (s.tribRx = .inFrame [] →
      (d = .running →
        exec .deadlineExpiry s = .next (endEvent { s with bus := .awaiting t .passed })) ∧
      exec .tributaryCharacterGapExpiry s =
        .next (endEvent (withFlags (fun v =>
          if d = .passed then deadlineTaken t { v with tribRx := .hunt }
          else { v with tribRx := .hunt }) s)) ∧
      exec (.deadlineMet (some t.address)) s =
        .next (endEvent { s with tribRx := .inFrame [t.address], bus := .awaiting t .met }) ∧
      ∀ a, a ≠ t.address →
        (d ≠ .passed →
          exec (.deadlineMet (some a)) s =
            .next (endEvent { s with tribRx := .inFrame [a] })) ∧
        (d = .passed →
          exec (.deadlineMet (some a)) s =
            .next (endEvent (withFlags (fun v =>
              deadlineTaken t { v with tribRx := .inFrame [a] }) s)))) ∧
    (s.tribRx ≠ .inFrame [] → d = .running →
      exec .deadlineExpiry s = .next (endEvent (withFlags (deadlineTaken t) s)))

/-- A valid DONE reply to a CALL or FETCH. -/
def Obligations.DoneReply : Prop :=
  ∀ (k : JobKind) (p : PortNo) (a rt : Byte) (d : Deadline) (it : Item) (rest : List Item)
    (after : List Byte) (s : State), s.resetHeld = false →
    s.bus = .awaiting ⟨.job k, p, a, rt⟩ d → k ≠ .send → (s.port p).queue = it :: rest →
    after.length ≤ 24 →
    ∀ u : State,
      (k = .fetch → u = { s with
        reports := s.reports ++ [⟨s.nextRC, .reply p it.stamp after⟩], nextRC := s.nextRC + 1 }) →
      (k = .call → u = s) →
      exec (.replyDone a after) s =
        .next (endEvent (withFlags (fun _ =>
          afterHeads none
            { modPort p (fun x => { x with
                queue := rest, settled := it.stamp, dirty := true }) u with
              tribRx := .hunt
              bus := .idle
              free := s.free + 1
              reservations := s.reservations - 1
              progressPending := true
              decisionDue := true }) s))

/-- A valid BUSY reply: tolerated below the port's busy limit, and otherwise the failure of the
job. -/
def Sys2Proof.Claim.BusyReply : Prop :=
  ∀ (k : JobKind) (p : PortNo) (a rt : Byte) (d : Deadline) (kind : JobKind) (st : Count)
    (data : List Byte) (x y : Nat) (rest : List Item) (s : State), s.resetHeld = false →
    s.bus = .awaiting ⟨.job k, p, a, rt⟩ d →
    (s.port p).queue = .job kind st data x y :: rest →
    ∀ u, u = { bump .busBusy s with tribRx := .hunt, bus := .idle, decisionDue := true } →
      (y < (s.port p).params.busyLimit.toNat →
        (∀ c, (s.port p).state = .closing c → c.mode = .finish) →
        exec (.replyBusy a []) s =
          .next (endEvent
            { modPort p (fun z => { z with
                queue := .job kind st data x (y + 1) :: rest, busyWait := some z.params.busyWait }) u
              with reservations := s.reservations - 1 })) ∧
      (y < (s.port p).params.busyLimit.toNat →
        (∃ c, (s.port p).state = .closing c ∧ c.mode = .discard) →
        exec (.replyBusy a []) s =
          .next (endEvent (withFlags (fun _ =>
            jobWaits p
              { modPort p (fun z => { z with queue := .job kind st data x (y + 1) :: rest }) u with
                reservations := s.reservations - 1 }) s))) ∧
      ((s.port p).params.busyLimit.toNat ≤ y →
        exec (.replyBusy a []) s =
          .next (endEvent (withFlags (fun _ =>
            jobFailsPort p .busyLimit (faultReported p st k .busyLimit x u)) s)))

/-- A valid REFUSED reply fails the job at once with the device's code. -/
def Sys2Proof.Claim.RefusedReply : Prop :=
  ∀ (k : JobKind) (p : PortNo) (a rt code : Byte) (d : Deadline) (kind : JobKind) (st : Count)
    (data : List Byte) (x y : Nat) (rest : List Item) (s : State), s.resetHeld = false →
    s.bus = .awaiting ⟨.job k, p, a, rt⟩ d →
    (s.port p).queue = .job kind st data x y :: rest →
    exec (.replyRefused a [code]) s =
      .next (endEvent (withFlags (fun _ =>
        jobFailsPort p (.refused code)
          (faultReported p st k (.refused code) x
            { s with tribRx := .hunt, bus := .idle, decisionDue := true })) s))

/-- BUSY and REFUSED replies to a CALL or FETCH. -/
def Obligations.BusyAndRefusedReplies : Prop :=
  Sys2Proof.Claim.BusyReply ∧ Sys2Proof.Claim.RefusedReply

/-- A failed attempt of a CALL or FETCH, by the deadline's expiry or by a bad reply, with the attempts
raised by one, against the port's retries. -/
def Obligations.FailedAttempt : Prop :=
  ∀ (k : JobKind) (p : PortNo) (a rt : Byte) (d : Deadline) (kind : JobKind) (st : Count)
    (data : List Byte) (x y : Nat) (rest : List Item) (s : State), s.resetHeld = false →
    s.bus = .awaiting ⟨.job k, p, a, rt⟩ d →
    (s.port p).queue = .job kind st data x y :: rest →
    ∀ (c : Instr) (tally : Tally) (cause : FaultCause) (rx : TribRx),
      (c = .deadlineExpiry ∧ d = .running ∧ s.tribRx ≠ .inFrame [] ∧ rx = s.tribRx ∧
          tally = .busTimeout ∧ cause = .noReply) ∨
        (∃ code body, goodFrameOf c = some (a, code, body) ∧ c.carried = true ∧
          ¬ validReply code body ∧ rx = .hunt ∧ tally = .busBadReply ∧ cause = .badReply) ∨
        (∃ got, c = .tributaryCharacterGapExpiry ∧ s.tribRx = .inFrame (a :: got) ∧ rx = .hunt ∧
          tally = .busBadReply ∧ cause = .badReply) →
      ∀ u, u = { modPort p (fun z => { z with queue := .job kind st data (x + 1) y :: rest })
          (bump tally s) with tribRx := rx, bus := .idle, decisionDue := true } →
        (x + 1 ≤ (s.port p).params.retries.toNat →
          exec c s = .next (endEvent (withFlags (fun _ =>
            jobWaits p { u with reservations := s.reservations - 1 }) s))) ∧
        ((s.port p).params.retries.toNat < x + 1 →
          exec c s = .next (endEvent (withFlags (fun _ =>
            jobFailsPort p cause (faultReported p st k cause (x + 1) u)) s)))

/-- The outcomes of a poll: EVENT becomes a report, NONE and silence return the reservation, and a
scan whose enable was turned off meanwhile stops. -/
def Obligations.PollOutcome : Prop :=
  ∀ (p : PortNo) (a rt : Byte) (d : Deadline) (s u : State), s.resetHeld = false →
    s.bus = .awaiting ⟨.poll, p, a, rt⟩ d →
    u = { s with
      bus := .idle
      reservations := s.reservations - 1
      decisionDue := true
      scan := if s.scanEnable then s.scan else .inactive
      nextIndex := if s.scanEnable then s.nextIndex else 0
      alternation := if s.scanEnable then s.alternation else false } →
    (∀ after, 1 ≤ after.length → after.length ≤ 16 →
      exec (.replyEvent a after) s =
        .next (endEvent { u with
          tribRx := .hunt
          reports := s.reports ++ [⟨s.nextRC, .event p a after⟩]
          nextRC := s.nextRC + 1 })) ∧
    exec (.replyNone a []) s = .next (endEvent { u with tribRx := .hunt }) ∧
    (∀ c kind body, goodFrameOf c = some (a, kind, body) → c.carried = true →
      ¬ pollAnswer kind body →
      exec c s = .next (endEvent { bump .scanSilent u with tribRx := .hunt })) ∧
    (∀ got, s.tribRx = .inFrame (a :: got) →
      exec .tributaryCharacterGapExpiry s =
        .next (endEvent { bump .scanSilent u with tribRx := .hunt })) ∧
    (d = .running → s.tribRx ≠ .inFrame [] →
      exec .deadlineExpiry s = .next (endEvent (bump .scanSilent u)))

/-- A stranger's good frame whose START was held when the deadline passed: its address byte is an event
of its own, in which the deadline is taken; where that started a transaction the rest is not received,
and otherwise the frame is a stray. -/
def Sys2Proof.Claim.StrangerAfterDeadline : Prop :=
  ∀ (c : Instr) (a kind : Byte) (body : List Byte) (t : Transaction) (s u : State),
    s.resetHeld = false → goodFrameOf c = some (a, kind, body) → c.carried = true →
    s.bus = .awaiting t .passed → s.tribRx = .inFrame [] → t.address ≠ a →
    exec (.deadlineMet (some a)) s = .next u →
    (u.tribRx = .hunt → exec c s = .next u) ∧
    (u.tribRx ≠ .hunt →
      exec c s = .next (endEvent { bump .strayReply u with tribRx := .hunt }))

/-- A good tributary frame that is not awaited is a stray, and changes nothing but its tally. -/
def Sys2Proof.Claim.Stray : Prop :=
  ∀ (c : Instr) (a kind : Byte) (body : List Byte) (s : State), s.resetHeld = false →
    goodFrameOf c = some (a, kind, body) → c.carried = true →
    (s.bus = .idle ∨ (∃ n, s.bus = .quiet n none) ∨
      ∃ t d, s.bus = .awaiting t d ∧ t.address ≠ a ∧
        ¬ (d = .passed ∧ s.tribRx = .inFrame [])) →
    exec c s = .next (endEvent { bump .strayReply s with tribRx := .hunt })

/-- A good tributary frame that is not awaited, also one that finds the deadline passed with its START
held (the model's reading of its whole-frame command, notes/assumptions 11). -/
def Obligations.StrayFrame : Prop :=
  Sys2Proof.Claim.Stray ∧ Sys2Proof.Claim.StrangerAfterDeadline

/-- Characters on the pair are taken one by one, and a frame that ends by a framing error, a LEN above
25 or a CRC that differs ends as it does by the character gap.
An A3h with a framing error begins no frame (the model's inference, notes/assumptions 16). -/
def Obligations.DamagedTributaryFrame : Prop :=
  ∀ s : State, s.resetHeld = false →
    (∀ c rest, exec (.tributaryDamagedFrame (c :: rest)) s =
      runCommands [.tributaryDamagedFrame [c], .tributaryDamagedFrame rest] s) ∧
    (s.tribRx = .hunt → ∀ b : LineChar, b.framingError = true ∨ b.byte ≠ 0xA3#8 → tbdir s = false →
      exec (.tributaryDamagedFrame [b]) s = .next (endEvent s)) ∧
    ∀ bytes, s.tribRx = .inFrame bytes → tbdir s = false →
      (∀ b, exec (.tributaryDamagedFrame [⟨b, true⟩]) s = exec .tributaryCharacterGapExpiry s) ∧
      (∀ b, bytes.length = 2 → 25 < b.toNat →
        exec (.tributaryDamagedFrame [⟨b, false⟩]) s = exec .tributaryCharacterGapExpiry s) ∧
      (∀ a k n data hi lo, bytes = a :: k :: n :: (data ++ [hi]) → data.length = n.toNat →
        word16 hi lo ≠ crc16 (a :: k :: n :: data) →
        exec (.tributaryDamagedFrame [⟨lo, false⟩]) s = exec .tributaryCharacterGapExpiry s) ∧
      ((∀ t d, s.bus = .awaiting t d →
          bytes.head? ≠ some t.address ∧ ¬ (d = .passed ∧ bytes = [])) →
        exec .tributaryCharacterGapExpiry s = .next (endEvent { s with tribRx := .hunt }))

/-- The characters of a good tributary frame, arriving one by one at a settled hub in HUNT, do what
its whole-frame command does. -/
def Sys2Proof.Claim.WholeFrame : Prop :=
  ∀ (c : Instr) (a kind : Byte) (body : List Byte) (s : State),
    goodFrameOf c = some (a, kind, body) → c.carried = true → Settled s → s.tribRx = .hunt →
    (∀ t, s.bus ≠ .awaiting t .passed) →
    exec (.tributaryDamagedFrame (soundChars (tribEnvelope a kind body))) s = exec c s

/-- Where the START is held already, whatever has become of the deadline, the characters after it do
so too. -/
def Sys2Proof.Claim.RestOfFrame : Prop :=
  ∀ (c : Instr) (a kind : Byte) (body : List Byte) (s : State),
    goodFrameOf c = some (a, kind, body) → c.carried = true → Settled s → s.tribRx = .inFrame [] →
    exec (.tributaryDamagedFrame (soundChars (tribEnvelope a kind body).tail)) s = exec c s

/-- The characters of a good tributary frame, arriving one by one at a settled hub in HUNT or holding
the START, do what its whole-frame command does.
The whole-frame command's convention is notes/assumptions 11. -/
def Obligations.CharactersMakeTheReply : Prop :=
  Sys2Proof.Claim.WholeFrame ∧ Sys2Proof.Claim.RestOfFrame

/-! ### The arbiter and the scanner -/

/-- Which head is eligible. -/
def Sys2Proof.Claim.Eligibility : Prop :=
  ∀ (p : PortNo) (k : JobKind) (s : State),
    entriesInUse s = s.reports.length + s.reservations ∧
    (eligibleHead s p = some k ↔
      ((s.port p).state = .opened ∨ ∃ c, (s.port p).state = .closing c) ∧
      headKind (s.port p).queue = some k ∧ (s.port p).busyWait = none ∧
      (k = .send ∨ entriesInUse s < 32))

/-- A decision with no scan under way starts the first eligible head of the urgent class from its
pointer, and otherwise of the normal class from its own; otherwise the bus stays IDLE. -/
def Sys2Proof.Claim.JobDecision : Prop :=
  ∀ s : State, s.bus = .idle → s.decisionDue = true → s.scan = .inactive →
    (∀ p k, eligibleHead s p = some k → (s.port p).params.urgent = 1 →
      (∀ q, (s.port q).params.urgent = 1 → (q - s.urgentPtr).val < (p - s.urgentPtr).val →
        eligibleHead s q = none) →
      arbitrate s =
        { s with
          bus := .sending ⟨.job k, p, (s.port p).params.address, (s.port p).params.replyTimeout⟩
          tribRx := .hunt
          urgentPtr := p + 1
          alternation := false
          reservations := if k = .send then s.reservations else s.reservations + 1 }) ∧
    (∀ p k, eligibleHead s p = some k → (s.port p).params.urgent ≠ 1 →
      (∀ q, (s.port q).params.urgent = 1 → eligibleHead s q = none) →
      (∀ q, (s.port q).params.urgent ≠ 1 → (q - s.normalPtr).val < (p - s.normalPtr).val →
        eligibleHead s q = none) →
      arbitrate s =
        { s with
          bus := .sending ⟨.job k, p, (s.port p).params.address, (s.port p).params.replyTimeout⟩
          tribRx := .hunt
          normalPtr := p + 1
          alternation := false
          reservations := if k = .send then s.reservations else s.reservations + 1 }) ∧
    ((∀ q, eligibleHead s q = none) →
      ¬ (s.attn = true ∧ s.scanEnable = true ∧ ∃ q, (s.port q).listens = true) →
      arbitrate s = { s with alternation := false })

/-- Which heads are eligible, and which of them a decision starts. -/
def Obligations.ArbiterServesJobs : Prop :=
  Sys2Proof.Claim.Eligibility ∧ Sys2Proof.Claim.JobDecision

/-- Which ports a scan polls: those that are not CLOSED and have listen yes. -/
def Sys2Proof.Claim.Listening : Prop :=
  ∀ (p : PortNo) (s : State),
    (s.port p).listens = true ↔ (s.port p).state ≠ .closed ∧ (s.port p).params.listen = 1

/-- A decision with a scan PENDING or RUNNING polls the lowest listening port at or above the next
index, if an entry is free. -/
def Sys2Proof.Claim.PollDecision : Prop :=
  ∀ (s : State) (i : Nat) (p : PortNo), s.bus = .idle → s.decisionDue = true →
    (s.scan = .pending ∧ i = 0) ∨ (s.scan = .running ∧ i = s.nextIndex) →
    i ≤ p.val → (s.port p).listens = true →
    (∀ q : PortNo, i ≤ q.val → q.val < p.val → (s.port q).listens = false) →
    entriesInUse s < 32 →
    arbitrate s =
      { s with
        bus := .sending ⟨.poll, p, (s.port p).params.address, (s.port p).params.replyTimeout⟩
        tribRx := .hunt
        scan := .running
        nextIndex := p.val + 1
        reservations := s.reservations + 1 }

/-- A scan that finds no port left completes: it goes INACTIVE, and a job is offered the bus before
any new scan. -/
def Sys2Proof.Claim.ScanCompletion : Prop :=
  ∀ (s : State) (i : Nat), s.bus = .idle → s.decisionDue = true →
    (s.scan = .pending ∧ i = 0) ∨ (s.scan = .running ∧ i = s.nextIndex) →
    (∀ q : PortNo, i ≤ q.val → (s.port q).listens = false) →
    (∀ p k, eligibleHead s p = some k →
      arbitrate s =
        arbitrate { s with scan := .inactive, nextIndex := 0, alternation := true }) ∧
    ((∀ p, eligibleHead s p = none) →
      (∀ t, (arbitrate s).bus = .sending t → t.kind = .poll) ∧
      (s.attn = false ∨ s.scanEnable = false ∨ (∀ q, (s.port q).listens = false) →
        arbitrate s = { s with scan := .inactive, nextIndex := 0, alternation := false }))

/-- A scan that names a poll but finds no free report entry is RUNNING with its next index as it
stands, and does not hold the bus: only SEND heads are eligible, served by class and pointer, and with
none the bus stays IDLE. -/
def Sys2Proof.Claim.ScanWithoutRoom : Prop :=
  ∀ (s : State) (i : Nat) (p : PortNo), s.bus = .idle → s.decisionDue = true →
    (s.scan = .pending ∧ i = 0) ∨ (s.scan = .running ∧ i = s.nextIndex) →
    i ≤ p.val → (s.port p).listens = true → 32 ≤ entriesInUse s →
    (∀ q k, eligibleHead s q = some k → k = .send) ∧
    (∀ q, eligibleHead s q = some .send → (s.port q).params.urgent = 1 →
      (∀ r, (s.port r).params.urgent = 1 → (r - s.urgentPtr).val < (q - s.urgentPtr).val →
        eligibleHead s r = none) →
      arbitrate s =
        { s with
          scan := .running
          nextIndex := i
          bus := .sending ⟨.job .send, q, (s.port q).params.address, (s.port q).params.replyTimeout⟩
          tribRx := .hunt
          urgentPtr := q + 1
          alternation := false }) ∧
    (∀ q, eligibleHead s q = some .send → (s.port q).params.urgent ≠ 1 →
      (∀ r, (s.port r).params.urgent = 1 → eligibleHead s r = none) →
      (∀ r, (s.port r).params.urgent ≠ 1 → (r - s.normalPtr).val < (q - s.normalPtr).val →
        eligibleHead s r = none) →
      arbitrate s =
        { s with
          scan := .running
          nextIndex := i
          bus := .sending ⟨.job .send, q, (s.port q).params.address, (s.port q).params.replyTimeout⟩
          tribRx := .hunt
          normalPtr := q + 1
          alternation := false }) ∧
    ((∀ q, eligibleHead s q = none) →
      arbitrate s = { s with scan := .running, nextIndex := i, alternation := false })

/-- Where no head is eligible and a scan has completed, or none was under way, with ATTN asserted, the
enable on and a listening port, a new scan begins in the same decision: the lowest listening port is
polled, or, with no report entry free, the scan is RUNNING from index 0 and the bus stays IDLE. -/
def Sys2Proof.Claim.NewScan : Prop :=
  ∀ (s : State) (p : PortNo), s.bus = .idle → s.decisionDue = true →
    s.scan = .inactive ∨
      (s.scan = .running ∧ ∀ q : PortNo, s.nextIndex ≤ q.val → (s.port q).listens = false) →
    (∀ q, eligibleHead s q = none) → s.attn = true → s.scanEnable = true →
    (s.port p).listens = true → (∀ q : PortNo, q.val < p.val → (s.port q).listens = false) →
    (entriesInUse s < 32 →
      arbitrate s =
        { s with
          bus := .sending ⟨.poll, p, (s.port p).params.address, (s.port p).params.replyTimeout⟩
          tribRx := .hunt
          scan := .running
          nextIndex := p.val + 1
          alternation := false
          reservations := s.reservations + 1 }) ∧
    (32 ≤ entriesInUse s →
      arbitrate s = { s with scan := .running, nextIndex := 0, alternation := false })

/-- Which ports listen, which poll a decision starts, what a scan without a free report entry does, how
a scan completes, and the new scan that may begin in the same decision. -/
def Obligations.ArbiterServesScans : Prop :=
  Sys2Proof.Claim.Listening ∧ Sys2Proof.Claim.PollDecision ∧ Sys2Proof.Claim.ScanWithoutRoom ∧
    Sys2Proof.Claim.ScanCompletion ∧ Sys2Proof.Claim.NewScan

/-! ### The end of an event and the transmitter -/

/-- The end of an event writes the transmitter's, the scanner's and the bus's fields alone, and of a
port record the dirty flag alone. -/
def Obligations.EndOfEventKeeps : Prop :=
  ∀ s : State, (endEvent s).durable = s.durable

/-- The condition on which a scan becomes PENDING: INACTIVE, ATTN asserted, the enable on, the
alternation flag clear, and a port that is not CLOSED with listen yes. -/
def Sys2Proof.Claim.scanCondition (s : State) : Prop :=
  s.scan = .inactive ∧ s.attn = true ∧ s.scanEnable = true ∧ s.alternation = false ∧
    ∃ p, (s.port p).state ≠ .closed ∧ (s.port p).params.listen = 1

/-- Where the condition stands the scan becomes PENDING and brings a decision, and otherwise nothing
changes. -/
def Sys2Proof.Claim.ScanBecomesPending : Prop :=
  ∀ s : State,
    (Sys2Proof.Claim.scanCondition s →
      evalScan s = { s with scan := .pending, decisionDue := true }) ∧
    (¬ Sys2Proof.Claim.scanCondition s → evalScan s = s)

/-- The end of an event is the scan condition, the transmitter's choice, the arbiter's decision and the
scan condition again; the decision is taken on an IDLE bus where something in the event called for it. -/
def Sys2Proof.Claim.EventEnds : Prop :=
  ∀ s : State,
    (∃ a b c d, a = evalScan s ∧ b = choose a ∧ c = arbitrate b ∧ d = evalScan c ∧
      endEvent s = { d with decisionDue := false }) ∧
    callArbiter s = { s with decisionDue := true } ∧
    (s.bus ≠ .idle ∨ s.decisionDue = false → arbitrate s = s)

/-- After the end of an event, a second end would change nothing; the line is BUSY or no source waits,
and the scan condition does not stand. -/
def Sys2Proof.Claim.NothingLeft : Prop :=
  ∀ s : State, endEvent (endEvent s) = endEvent s ∧ (endEvent s).decisionDue = false ∧
    ((endEvent s).line = .free →
      (endEvent s).streamPending = false ∧ (endEvent s).flowPending = false ∧
      (endEvent s).slot = none ∧ (endEvent s).reports = [] ∧
      (endEvent s).progressPending = false) ∧
    ¬ Sys2Proof.Claim.scanCondition (endEvent s)

/-- The end of an event: when a scan becomes PENDING, what the end does and in which order, and that
nothing is left to do after it.
The order inside it is the model's inference (notes/assumptions 4). -/
def Obligations.EndOfEventSettles : Prop :=
  Sys2Proof.Claim.ScanBecomesPending ∧ Sys2Proof.Claim.EventEnds ∧ Sys2Proof.Claim.NothingLeft

/-- The transmitter's choice on a FREE line, source by source in their order. -/
def Obligations.TransmitterChoice : Prop :=
  ∀ s : State,
    (∀ f, s.line = .busy f → choose s = s) ∧
    (s.line = .free → s.streamPending = true →
      choose s =
        { s with line := .busy (.stream s.stream s.ac s.nextRC s.link), streamPending := false }) ∧
    (s.line = .free → s.streamPending = false → s.flowPending = true →
      ∃ set : PortSet, (∀ p : PortNo, set.getLsbD p.val = (s.port p).congested) ∧
        choose s = { s with line := .busy (.flow set s.poolLow s.free), flowPending := false }) ∧
    (s.line = .free → s.streamPending = false → s.flowPending = false →
      (∀ a, s.slot = some a → choose s = { s with line := .busy (.answer a), slot := none }) ∧
      (s.slot = none →
        (∀ r rest, s.reports = r :: rest → (s.progressPending = true → s.turn = .progress) →
          choose s =
            { s with
              line := .busy (.report r)
              reports := rest
              ring := if s.ring.length < 16 then s.ring ++ [r] else s.ring.tail ++ [r]
              turn := .queue
              decisionDue := true }) ∧
        (s.progressPending = true → s.reports = [] ∨ s.turn = .queue →
          choose s =
            { s with
              line := .busy (.progress
                ((allPorts.filter fun p => (s.port p).dirty).map fun p => (p, (s.port p).settled)))
              ports := s.ports.map fun x => { x with dirty := false }
              progressPending := false
              turn := .progress }) ∧
        (s.progressPending = false → s.reports = [] → choose s = s)))

/-- The codes of stream state, hold cause and NO_ROOM detail. -/
def Sys2Proof.Claim.streamCodes : List (StreamState × List Byte) :=
  [(.run, [0, 0, 0]), (.hold .restarted, [1, 1, 0]), (.hold .check, [1, 2, 0]),
    (.hold .malformed, [1, 3, 0]), (.hold .gap, [1, 4, 0]), (.hold (.noRoom .pool), [1, 5, 1]),
    (.hold (.noRoom .quota), [1, 5, 2]), (.hold (.noRoom .fenceTable), [1, 5, 3]),
    (.hold (.noRoom .reports), [1, 5, 4]), (.hold .silence, [1, 6, 0])]

/-- The codes of the two link states. -/
def Sys2Proof.Claim.linkCodes : List (Link × Byte) := [(.quiet, 0), (.live, 1)]

/-- The code of a flag or yes/no field. -/
def Sys2Proof.Claim.flagCode (b : Bool) : Byte := if b then 1 else 0

/-- The item kind codes. -/
def Sys2Proof.Claim.kindCodes : List (JobKind × Byte) := [(.send, 0x21), (.call, 0x22), (.fetch, 0x23)]

/-- A fault cause with its code and the refusal code it governs. -/
def Sys2Proof.Claim.faultCoded (f : FaultCause) (cause refusal : Byte) : Prop :=
  (f = .noReply ∧ cause = 1 ∧ refusal = 0) ∨ (f = .badReply ∧ cause = 2 ∧ refusal = 0) ∨
    (f = .refused refusal ∧ cause = 3) ∨ (f = .busyLimit ∧ cause = 4 ∧ refusal = 0)

/-- The seven bytes of a fence entry in a HUB answer. -/
def Sys2Proof.Claim.entryCoded (e : FenceEntry) (bytes : List Byte) : Prop :=
  (e = .free ∧ bytes = [0, 0, 0, 0, 0, 0, 0]) ∨
    ∃ g, e = .gathering g ∧ bytes = 1 :: (bytes16 g.stamp ++ bytes16 g.members ++ bytes16 g.arrived)

/-- The bus state, in-flight kind and in-flight port of a HUB answer. -/
def Sys2Proof.Claim.busCoded (b : BusView) (bytes : List Byte) : Prop :=
  (b = .idle ∧ bytes = [0, 0, 0]) ∨ (b = .quiet ∧ bytes = [3, 0, 0]) ∨
    ∃ k code p, (k, code) ∈ [(TxnKind.job .send, 0x21), (.job .call, 0x22), (.job .fetch, 0x23),
        (.poll, 0x03)] ∧
      ((b = .sending k p ∧ bytes = [1, code, BitVec.ofNat 8 p.val]) ∨
        (b = .awaiting k p ∧ bytes = [2, code, BitVec.ofNat 8 p.val]))

/-- The head fields of a PORT answer: kind, stamp, fence index, attempts, busy count. -/
def Sys2Proof.Claim.headCoded (h : HeadView) (bytes : List Byte) : Prop :=
  (h = .none ∧ bytes = [0, 0, 0, 0, 0, 0]) ∨
    (∃ k code st a b, (k, code) ∈ Sys2Proof.Claim.kindCodes ∧ h = .job k st a b ∧
      bytes = code :: (bytes16 st ++ [0, BitVec.ofNat 8 a, BitVec.ofNat 8 b])) ∨
    ∃ st i, h = .marker st i ∧ bytes = 0x24 :: (bytes16 st ++ [BitVec.ofNat 8 i.val, 0, 0])

/-- The state code of a PORT answer, and its last eight bytes: close mode, close stamp, discarded so
far, last discarded stamp, fault cause, refusal code. -/
def Sys2Proof.Claim.stateCoded (st : PortState) (code : Byte) (bytes : List Byte) : Prop :=
  (st = .closed ∧ code = 0 ∧ bytes = [0, 0, 0, 0, 0, 0, 0, 0]) ∨
    (st = .opened ∧ code = 1 ∧ bytes = [0, 0, 0, 0, 0, 0, 0, 0]) ∨
    (∃ f cause refusal, Sys2Proof.Claim.faultCoded f cause refusal ∧ st = .faulted f ∧ code = 2 ∧
      bytes = [0, 0, 0, 0, 0, 0, cause, refusal]) ∨
    ∃ c mode, (c.mode, mode) ∈ [(CloseMode.finish, 0), (.discard, 1)] ∧ st = .closing c ∧ code = 3 ∧
      bytes = mode :: (bytes16 c.stamp ++ BitVec.ofNat 8 c.count ::
        (bytes16 (c.last.getD 0) ++ [0, 0]))

/-- Field order and codes of the queued reports: TYPE, flags byte, RC, then the fields of the kind. -/
def Sys2Proof.Claim.QueuedReportFields : Prop :=
  ∀ (rc st : Count) (p : PortNo) (port : Byte), port = BitVec.ofNat 8 p.val →
    (∀ d, (TxFrame.report ⟨rc, .reply p st d⟩).body =
      0x61#8 :: 0 :: (bytes16 rc ++ port :: (bytes16 st ++ d))) ∧
    (∀ k kind f cause refusal a cl, (k, kind) ∈ Sys2Proof.Claim.kindCodes →
      Sys2Proof.Claim.faultCoded f cause refusal →
      (TxFrame.report ⟨rc, .fault p st k f a cl⟩).body =
        0x62#8 :: 0 :: (bytes16 rc ++ port :: (bytes16 st ++
          [kind, cause, BitVec.ofNat 8 a, refusal, Sys2Proof.Claim.flagCode cl]))) ∧
    (∀ a d, (TxFrame.report ⟨rc, .event p a d⟩).body =
      0x63#8 :: 0 :: (bytes16 rc ++ port :: a :: d)) ∧
    (∀ m, (TxFrame.report ⟨rc, .fence st m .released⟩).body =
      0x64#8 :: 0 :: (bytes16 rc ++ bytes16 st ++ bytes16 m ++ [0, 0, 0])) ∧
    (∀ m r code,
      (r, code) ∈ [(BreakReason.flush, 1), (.closeDiscard, 2), (.closedFaulted, 3),
        (.failedWhileClosing, 4)] →
      (TxFrame.report ⟨rc, .fence st m (.broken p r)⟩).body =
        0x64#8 :: 0 :: (bytes16 rc ++ bytes16 st ++ bytes16 m ++ [1, port, code])) ∧
    (∀ ty r code,
      (r, code) ∈ [(RejectReason.notOpen, 1), (.notClosed, 2), (.badPort, 3), (.badParam, 4),
        (.addrTaken, 5), (.badMembers, 6)] →
      (TxFrame.report ⟨rc, .reject st ty r⟩).body =
        0x65#8 :: 0 :: (bytes16 rc ++ bytes16 st ++ [ty, code])) ∧
    (∀ c code n last,
      (c, code) ∈ [(ClosedCause.finished, 1), (.discarded, 2), (.closedFaulted, 3),
        (.failedWhileClosing, 4)] →
      (TxFrame.report ⟨rc, .closed p st c n last⟩).body =
        0x66#8 :: 0 :: (bytes16 rc ++ port :: (bytes16 st ++ code :: BitVec.ofNat 8 n ::
          bytes16 (last.getD 0)))) ∧
    (TxFrame.report ⟨rc, .echo st⟩).body = 0x67#8 :: 0 :: (bytes16 rc ++ bytes16 st)

/-- Field order and codes of the state reports. -/
def Sys2Proof.Claim.StateReportFields : Prop :=
  (∀ st codes link code ac next, (st, codes) ∈ Sys2Proof.Claim.streamCodes →
    (link, code) ∈ Sys2Proof.Claim.linkCodes →
    (TxFrame.stream st ac next link).body =
      0x70#8 :: (codes ++ bytes16 ac ++ bytes16 next ++ [code])) ∧
  (∀ m low free, (TxFrame.flow m low free).body =
    0x71#8 :: (bytes16 m ++ [Sys2Proof.Claim.flagCode low, BitVec.ofNat 8 free])) ∧
  (TxFrame.progress []).body = [0x72#8] ∧
  ∀ es p c, (TxFrame.progress (es ++ [(p, c)])).body =
    (TxFrame.progress es).body ++ BitVec.ofNat 8 p.val :: bytes16 c

/-- Field order and codes of the HUB and PORT answers. -/
def Sys2Proof.Claim.SnapshotFields : Prop :=
  (∀ (tag : Byte) (v : HubView) codes link scan e0 e1 e2 e3 bus,
    (v.stream, codes) ∈ Sys2Proof.Claim.streamCodes → (v.link, link) ∈ Sys2Proof.Claim.linkCodes →
    (v.scan, scan) ∈ [(ScanState.inactive, 0#8), (.pending, 1), (.running, 2)] →
    Sys2Proof.Claim.entryCoded v.fences[0] e0 → Sys2Proof.Claim.entryCoded v.fences[1] e1 →
    Sys2Proof.Claim.entryCoded v.fences[2] e2 → Sys2Proof.Claim.entryCoded v.fences[3] e3 →
    Sys2Proof.Claim.busCoded v.bus bus →
    (TxFrame.answer (.hub tag v)).body =
      0x73#8 :: 1 :: tag :: (codes ++ bytes16 v.ac ++
        [link, v.silenceCode, v.poolReserve, Sys2Proof.Claim.flagCode v.scanEnable,
          BitVec.ofNat 8 v.free, Sys2Proof.Claim.flagCode v.poolLow] ++ bytes16 v.nextRC ++
        [BitVec.ofNat 8 v.unsent, BitVec.ofNat 8 v.reservations, BitVec.ofNat 8 v.ringCount] ++
        e0 ++ e1 ++ e2 ++ e3 ++ scan :: bus)) ∧
  ∀ (tag : Byte) (v : PortView) state last head,
    Sys2Proof.Claim.stateCoded v.state state last → Sys2Proof.Claim.headCoded v.head head →
    (TxFrame.answer (.port tag v)).body =
      0x73#8 :: 2 :: tag :: BitVec.ofNat 8 v.port.val :: state :: v.params.address ::
        v.params.quota :: v.params.highMark :: v.params.lowMark :: v.params.replyTimeout ::
        v.params.retries :: v.params.busyWait :: v.params.busyLimit :: v.params.urgent ::
        v.params.listen :: Sys2Proof.Claim.flagCode v.bound :: BitVec.ofNat 8 v.occupancy ::
        Sys2Proof.Claim.flagCode v.congested :: (bytes16 v.settled ++
          [Sys2Proof.Claim.flagCode v.dirty, Sys2Proof.Claim.flagCode v.busyWaiting,
            Sys2Proof.Claim.flagCode v.inFlight] ++ head ++ last)

/-- Field order and codes of the other answers; a recall copy is its report with the flags byte set. -/
def Sys2Proof.Claim.AnswerFields : Prop :=
  (∀ tag (p : PortNo) start n, (TxFrame.answer (.queue tag p start n [])).body =
    [0x73#8, 3, tag, BitVec.ofNat 8 p.val, start, BitVec.ofNat 8 n, 0]) ∧
  (∀ tag (p : PortNo) start n items (x : ItemView) kind,
    (x.kind = none ∧ kind = 0x24#8) ∨
      (∃ k, x.kind = some k ∧ (k, kind) ∈ Sys2Proof.Claim.kindCodes) →
    (TxFrame.answer (.queue tag p start n (items ++ [x]))).body =
      ((TxFrame.answer (.queue tag p start n items)).body.set 6
        (BitVec.ofNat 8 (items.length + 1))) ++ kind :: bytes16 x.stamp) ∧
  (∀ tag c v, (TxFrame.answer (.tally tag c v)).body =
    0x73#8 :: 4 :: tag :: c :: v.toList.flatMap bytes16) ∧
  (∀ tag, (TxFrame.answer (.ident tag)).body = [0x73, 5, tag, 0x55, 0x16, 0x96, 1]) ∧
  (∀ rc next, (TxFrame.answer (.recallMiss rc none next)).body =
    0x73#8 :: 0x0E :: (bytes16 rc ++ [0, 0, 0, 0, 0] ++ bytes16 next)) ∧
  (∀ rc a b next, (TxFrame.answer (.recallMiss rc (some (a, b)) next)).body =
    0x73#8 :: 0x0E :: (bytes16 rc ++ 1 :: (bytes16 a ++ bytes16 b ++ bytes16 next))) ∧
  (∀ tag k hi lo, (TxFrame.answer (.badQuery tag k hi lo)).body = [0x73, 0x0F, tag, k, hi, lo]) ∧
  ∀ r : Report,
    (TxFrame.answer (.recallCopy r)).body = (TxFrame.report r).body.set 1 0x01#8 ∧
      (TxFrame.report r).body[1]? = some 0x00#8

/-- The LEN of every report frame by its kind. -/
def Sys2Proof.Claim.Lengths : Prop :=
  (∀ st ac next link, (TxFrame.stream st ac next link).body.length = 9) ∧
  (∀ m low free, (TxFrame.flow m low free).body.length = 5) ∧
  (∀ es, (TxFrame.progress es).body.length = 1 + 3 * es.length) ∧
  (∀ rc p st d, (TxFrame.report ⟨rc, .reply p st d⟩).body.length = 7 + d.length) ∧
  (∀ rc p st k c a cl, (TxFrame.report ⟨rc, .fault p st k c a cl⟩).body.length = 12) ∧
  (∀ rc p a d, (TxFrame.report ⟨rc, .event p a d⟩).body.length = 6 + d.length) ∧
  (∀ rc st m o, (TxFrame.report ⟨rc, .fence st m o⟩).body.length = 11) ∧
  (∀ rc st ty r, (TxFrame.report ⟨rc, .reject st ty r⟩).body.length = 8) ∧
  (∀ rc p st c n last, (TxFrame.report ⟨rc, .closed p st c n last⟩).body.length = 11) ∧
  (∀ rc st, (TxFrame.report ⟨rc, .echo st⟩).body.length = 6) ∧
  (∀ tag v, (TxFrame.answer (.hub tag v)).body.length = 51) ∧
  (∀ tag v, (TxFrame.answer (.port tag v)).body.length = 37) ∧
  (∀ tag p i n items,
    (TxFrame.answer (.queue tag p i n items)).body.length = 7 + 3 * items.length) ∧
  (∀ tag c v, (TxFrame.answer (.tally tag c v)).body.length = 34) ∧
  (∀ tag, (TxFrame.answer (.ident tag)).body.length = 7) ∧
  (∀ rc held next, (TxFrame.answer (.recallMiss rc held next)).body.length = 11) ∧
  (∀ tag k hi lo, (TxFrame.answer (.badQuery tag k hi lo)).body.length = 6) ∧
  ∀ r : Report, (TxFrame.answer (.recallCopy r)).body.length = (TxFrame.report r).body.length

/-- A frame whose lists and data fields are within the bounds of the chapters: REPLY data 0..24 bytes,
EVENT data 1..16, PROGRESS entries 1..16, QUEUE items 0..16. -/
def Sys2Proof.Claim.frameInBounds : TxFrame → Prop
  | .report ⟨_, .reply _ _ d⟩ | .answer (.recallCopy ⟨_, .reply _ _ d⟩) => d.length ≤ 24
  | .report ⟨_, .event _ _ d⟩ | .answer (.recallCopy ⟨_, .event _ _ d⟩) =>
      1 ≤ d.length ∧ d.length ≤ 16
  | .progress es => 1 ≤ es.length ∧ es.length ≤ 16
  | .answer (.queue _ _ _ _ items) => items.length ≤ 16
  | _ => True

/-- The envelope of every report frame, its LEN within 4..55, a 16-bit field high byte first, and the
characters on TXD: each byte back to back with its start bit, its bits least significant first and its
stop bit, and mark before, after and without a frame. -/
def Sys2Proof.Claim.Transmission : Prop :=
  (∀ f : TxFrame, f.bytes = 0xC5#8 :: BitVec.ofNat 8 f.body.length ::
    (f.body ++ bytes16 (crc16 (BitVec.ofNat 8 f.body.length :: f.body)))) ∧
  (∀ f : TxFrame, Sys2Proof.Claim.frameInBounds f → 4 ≤ f.body.length ∧ f.body.length ≤ 55) ∧
  (∀ c : BitVec 16, bytes16 c = [c.extractLsb' 8 8, c.extractLsb' 0 8]) ∧
  ∀ s : State,
    (s.line = .free → ∀ k, s.txdLevel k = true) ∧
    ∀ f, s.line = .busy f →
      (∀ i b, f.bytes[i]? = some b →
        s.txdLevel (10 * i) = false ∧
        (∀ j, j < 8 → s.txdLevel (10 * i + 1 + j) = b.getLsbD j) ∧
        s.txdLevel (10 * i + 9) = true) ∧
      ∀ k, 10 * f.bytes.length ≤ k → s.txdLevel k = true

/-- Every report frame: field order and codes by its kind, its LEN, its envelope and its characters on
TXD. -/
def Obligations.ReportLengths : Prop :=
  Sys2Proof.Claim.QueuedReportFields ∧ Sys2Proof.Claim.StateReportFields ∧
    Sys2Proof.Claim.SnapshotFields ∧ Sys2Proof.Claim.AnswerFields ∧ Sys2Proof.Claim.Lengths ∧
    Sys2Proof.Claim.Transmission

/-! ### Inquiry -/

/-- The fields of a HUB snapshot, from the state. -/
def Sys2Proof.Claim.HubFields : Prop :=
  ∀ s : State,
    hubView s =
      { stream := s.stream, ac := s.ac, link := s.link, silenceCode := s.silenceCode,
        poolReserve := s.poolReserve, scanEnable := s.scanEnable, free := s.free,
        poolLow := s.poolLow, nextRC := s.nextRC, unsent := s.reports.length,
        reservations := s.reservations, ringCount := s.ring.length, fences := s.fences,
        scan := s.scan, bus := (hubView s).bus } ∧
    (s.bus = .idle → (hubView s).bus = .idle) ∧
    (∀ t, s.bus = .sending t → (hubView s).bus = .sending t.kind t.port) ∧
    (∀ t d, s.bus = .awaiting t d → (hubView s).bus = .awaiting t.kind t.port) ∧
    ∀ n f, s.bus = .quiet n f → (hubView s).bus = .quiet

/-- The fields of a PORT snapshot, from the state; the close and fault fields are those of its port
state. -/
def Sys2Proof.Claim.PortFields : Prop :=
  ∀ (p : PortNo) (s : State) (v : PortView), portView p s = v →
    v.port = p ∧ v.state = (s.port p).state ∧ v.params = (s.port p).params ∧
    (v.bound = true ↔ (s.port p).state ≠ .closed) ∧
    v.occupancy = (s.port p).queue.length ∧ v.congested = (s.port p).congested ∧
    v.settled = (s.port p).settled ∧ v.dirty = (s.port p).dirty ∧
    (v.busyWaiting = true ↔ ∃ n, (s.port p).busyWait = some n) ∧
    (v.inFlight = true ↔
      ∃ t : Transaction, (s.bus = .sending t ∨ ∃ d, s.bus = .awaiting t d) ∧ t.port = p ∧
        ∃ k, t.kind = .job k) ∧
    ((s.port p).queue = [] → v.head = .none) ∧
    (∀ k stamp data attempts busy rest,
      (s.port p).queue = .job k stamp data attempts busy :: rest →
      v.head = .job k stamp attempts busy) ∧
    ∀ stamp i rest, (s.port p).queue = .marker stamp i :: rest → v.head = .marker stamp i

/-- The fields of an item in a QUEUE snapshot, and the order of the tallies in a TALLY snapshot. -/
def Sys2Proof.Claim.ItemAndTallyFields : Prop :=
  (∀ k stamp data attempts busy,
    (itemView (.job k stamp data attempts busy)).kind = some k ∧
      (itemView (.job k stamp data attempts busy)).stamp = stamp) ∧
  (∀ stamp i,
    (itemView (.marker stamp i)).kind = none ∧ (itemView (.marker stamp i)).stamp = stamp) ∧
  ∀ s : State,
    s.tallies.toList =
      [s.tally .noise, s.tally .checkErr, s.tally .malformed, s.tally .duplicate,
        s.tally .heldDiscard, s.tally .holdEntry, s.tally .misdirected, s.tally .answerOverrun,
        s.tally .recallMiss, s.tally .busTimeout, s.tally .busBadReply, s.tally .busBusy,
        s.tally .strayReply, s.tally .scanSilent, s.tally .jobFailed]

/-- The queries that find the slot empty: the snapshot of the arrival event goes into the slot. -/
def Sys2Proof.Claim.Queries : Prop :=
  ∀ (tag hi lo : Byte) (s u : State), s.resetHeld = false → s.slot = none → u = frameReceived s →
    exec (.queryHub tag hi lo) s =
      .next (endEvent { u with slot := some (.hub tag (hubView u)) }) ∧
    (∀ p : PortNo, hi.toNat = p.val →
      exec (.queryPort tag hi lo) s =
        .next (endEvent { u with slot := some (.port tag (portView p u)) }) ∧
      exec (.queryQueue tag hi lo) s =
        .next (endEvent { u with
          slot := some (.queue tag p lo (s.port p).queue.length
            ((((s.port p).queue.drop lo.toNat).take 16).map itemView)) })) ∧
    (lo = 0 → exec (.queryTally tag hi lo) s =
      .next (endEvent { u with slot := some (.tally tag lo s.tallies) })) ∧
    (lo = 1 → exec (.queryTally tag hi lo) s =
      .next (endEvent { u with
        slot := some (.tally tag lo s.tallies), tallies := Vector.replicate 15 0 })) ∧
    exec (.queryIdent tag hi lo) s = .next (endEvent { u with slot := some (.ident tag) })

/-- A bad query is answered as such and changes nothing else. -/
def Sys2Proof.Claim.BadQueries : Prop :=
  ∀ (tag hi lo : Byte) (s u : State), s.resetHeld = false → s.slot = none → u = frameReceived s →
    (16 ≤ hi.toNat →
      exec (.queryPort tag hi lo) s =
        .next (endEvent { u with slot := some (.badQuery tag 0x02#8 hi lo) }) ∧
      exec (.queryQueue tag hi lo) s =
        .next (endEvent { u with slot := some (.badQuery tag 0x03#8 hi lo) })) ∧
    (2 ≤ lo.toNat →
      exec (.queryTally tag hi lo) s =
        .next (endEvent { u with slot := some (.badQuery tag 0x04#8 hi lo) })) ∧
    ∀ kind : Byte, kind.toNat = 0 ∨ 6 ≤ kind.toNat →
      exec (.queryUnknownKind tag kind hi lo) s =
        .next (endEvent { u with slot := some (.badQuery tag kind hi lo) })

/-- QUERY with the answer slot empty: the fields of each snapshot, the answer of each kind, and
BAD_QUERY. -/
def Obligations.QueryAnswers : Prop :=
  Sys2Proof.Claim.HubFields ∧ Sys2Proof.Claim.PortFields ∧ Sys2Proof.Claim.ItemAndTallyFields ∧
    Sys2Proof.Claim.Queries ∧ Sys2Proof.Claim.BadQueries

/-- A QUERY or RECALL that finds the slot occupied is discarded with ANSWER_OVERRUN. -/
def Sys2Proof.Claim.AnswerOverrun : Prop :=
  ∀ (c : Instr) (s : State), s.resetHeld = false → s.slot.isSome = true →
    (∃ f, hostFrameOf c = some f ∧
      ((∃ tag kind hi lo, f = .query tag kind hi lo) ∨ ∃ rc, f = .recall rc)) →
    exec c s = .next (endEvent (bump .answerOverrun (frameReceived s)))

/-- RECALL with the slot empty: a repeat copy of the report with that RC, or a miss with the bounds
of the ring. -/
def Sys2Proof.Claim.Recall : Prop :=
  ∀ (rc : Count) (s u : State), s.resetHeld = false → s.slot = none → u = frameReceived s →
    (∀ r before after, s.ring = before ++ r :: after → r.rc = rc → (∀ x ∈ before, x.rc ≠ rc) →
      exec (.recall rc) s = .next (endEvent { u with slot := some (.recallCopy r) })) ∧
    ((∀ r ∈ s.ring, r.rc ≠ rc) →
      ∃ held : Option (Count × Count),
        exec (.recall rc) s =
          .next (endEvent
            { bump .recallMiss u with slot := some (.recallMiss rc held s.nextRC) }) ∧
        (s.ring = [] → held = none) ∧
        ∀ a rest, s.ring = a :: rest → held = some (a.rc, ((a :: rest).getLast (by simp)).rc))

/-- RECALL with the slot empty, and the overrun of an occupied slot. -/
def Obligations.RecallAndOverrun : Prop :=
  Sys2Proof.Claim.AnswerOverrun ∧ Sys2Proof.Claim.Recall

/-- A tally rises by one, stops at 65535, and touches nothing else. -/
def Obligations.TalliesSaturate : Prop :=
  ∀ (t : Tally) (s : State),
    ((bump t s).tally t).toNat = min ((s.tally t).toNat + 1) 65535 ∧
    (∀ t', t' ≠ t → (bump t s).tally t' = s.tally t') ∧
    bump t s = { s with tallies := (bump t s).tallies }

/-! ### Laws that every step keeps -/

/-- Free slots plus occupancies stay 96. -/
def Obligations.StepKeepsPool : Prop :=
  ∀ s t : State, PoolConserved s → step s = .next t → PoolConserved t

/-- Reservations equal their holders, and the report queue stays within its entries. -/
def Obligations.StepKeepsReservations : Prop :=
  ∀ s t : State, ReservationsHeld s → step s = .next t → ReservationsHeld t

/-- Ring and queue keep consecutive report counts, and the ring at most sixteen reports. -/
def Obligations.StepKeepsCounts : Prop :=
  ∀ s t : State, CountsConsecutive s → step s = .next t → CountsConsecutive t

/-- PROGRESS is pending exactly while some port is dirty. -/
def Obligations.StepKeepsProgress : Prop :=
  ∀ s t : State, ProgressAgrees s → step s = .next t → ProgressAgrees t

/-- Occupancies, parameters and flags stay in bounds. -/
def Obligations.StepKeepsFlags : Prop :=
  ∀ s t : State, FlagsAgree s → step s = .next t → FlagsAgree t

/-- Ports, bus and fence table stay coherent. -/
def Obligations.StepKeepsCoherence : Prop :=
  ∀ s t : State, Coherent s → step s = .next t → Coherent t

/-- Each device address is bound to at most one port that is not CLOSED. -/
def Obligations.StepKeepsBindings : Prop :=
  ∀ s t : State, BindingsDistinct s → step s = .next t → BindingsDistinct t

/-- An IDLE bus leaves no eligible head and no PENDING scan unserved. -/
def Obligations.StepKeepsBusServed : Prop :=
  ∀ s t : State, BusServed s → step s = .next t → BusServed t

/-- Every one of these laws holds of the machine after reset. -/
def Obligations.ResetKeepsTheLaws : Prop :=
  PoolConserved State.reset ∧ ReservationsHeld State.reset ∧ CountsConsecutive State.reset ∧
    ProgressAgrees State.reset ∧ FlagsAgree State.reset ∧ Coherent State.reset ∧
    BindingsDistinct State.reset ∧ BusServed State.reset
end

