-- ==== Sys2Proof/Laws/State.lean ====
section
/-! SUPPORT. One lemma for each field that an update of State leaves alone, true by unfolding. -/

namespace Sys2Proof.Machine

/-! ### setPort -/

@[simp] theorem setPort_rx (p : PortNo) (x : Port) (s : State) : (setPort p x s).rx = s.rx := rfl
@[simp] theorem setPort_rxdLevel (p : PortNo) (x : Port) (s : State) :
    (setPort p x s).rxdLevel = s.rxdLevel := rfl
@[simp] theorem setPort_rxdChar (p : PortNo) (x : Port) (s : State) :
    (setPort p x s).rxdChar = s.rxdChar := rfl
@[simp] theorem setPort_rate (p : PortNo) (x : Port) (s : State) :
    (setPort p x s).rate = s.rate := rfl
@[simp] theorem setPort_link (p : PortNo) (x : Port) (s : State) :
    (setPort p x s).link = s.link := rfl
@[simp] theorem setPort_silenceTimer (p : PortNo) (x : Port) (s : State) :
    (setPort p x s).silenceTimer = s.silenceTimer := rfl
@[simp] theorem setPort_silenceCode (p : PortNo) (x : Port) (s : State) :
    (setPort p x s).silenceCode = s.silenceCode := rfl
@[simp] theorem setPort_ac (p : PortNo) (x : Port) (s : State) : (setPort p x s).ac = s.ac := rfl
@[simp] theorem setPort_stream (p : PortNo) (x : Port) (s : State) :
    (setPort p x s).stream = s.stream := rfl
@[simp] theorem setPort_free (p : PortNo) (x : Port) (s : State) :
    (setPort p x s).free = s.free := rfl
@[simp] theorem setPort_poolReserve (p : PortNo) (x : Port) (s : State) :
    (setPort p x s).poolReserve = s.poolReserve := rfl
@[simp] theorem setPort_poolLow (p : PortNo) (x : Port) (s : State) :
    (setPort p x s).poolLow = s.poolLow := rfl
@[simp] theorem setPort_fences (p : PortNo) (x : Port) (s : State) :
    (setPort p x s).fences = s.fences := rfl
@[simp] theorem setPort_bus (p : PortNo) (x : Port) (s : State) : (setPort p x s).bus = s.bus := rfl
@[simp] theorem setPort_tribRx (p : PortNo) (x : Port) (s : State) :
    (setPort p x s).tribRx = s.tribRx := rfl
@[simp] theorem setPort_urgentPtr (p : PortNo) (x : Port) (s : State) :
    (setPort p x s).urgentPtr = s.urgentPtr := rfl
@[simp] theorem setPort_normalPtr (p : PortNo) (x : Port) (s : State) :
    (setPort p x s).normalPtr = s.normalPtr := rfl
@[simp] theorem setPort_attn (p : PortNo) (x : Port) (s : State) :
    (setPort p x s).attn = s.attn := rfl
@[simp] theorem setPort_scan (p : PortNo) (x : Port) (s : State) :
    (setPort p x s).scan = s.scan := rfl
@[simp] theorem setPort_nextIndex (p : PortNo) (x : Port) (s : State) :
    (setPort p x s).nextIndex = s.nextIndex := rfl
@[simp] theorem setPort_alternation (p : PortNo) (x : Port) (s : State) :
    (setPort p x s).alternation = s.alternation := rfl
@[simp] theorem setPort_scanEnable (p : PortNo) (x : Port) (s : State) :
    (setPort p x s).scanEnable = s.scanEnable := rfl
@[simp] theorem setPort_reports (p : PortNo) (x : Port) (s : State) :
    (setPort p x s).reports = s.reports := rfl
@[simp] theorem setPort_reservations (p : PortNo) (x : Port) (s : State) :
    (setPort p x s).reservations = s.reservations := rfl
@[simp] theorem setPort_nextRC (p : PortNo) (x : Port) (s : State) :
    (setPort p x s).nextRC = s.nextRC := rfl
@[simp] theorem setPort_ring (p : PortNo) (x : Port) (s : State) :
    (setPort p x s).ring = s.ring := rfl
@[simp] theorem setPort_slot (p : PortNo) (x : Port) (s : State) :
    (setPort p x s).slot = s.slot := rfl
@[simp] theorem setPort_streamPending (p : PortNo) (x : Port) (s : State) :
    (setPort p x s).streamPending = s.streamPending := rfl
@[simp] theorem setPort_flowPending (p : PortNo) (x : Port) (s : State) :
    (setPort p x s).flowPending = s.flowPending := rfl
@[simp] theorem setPort_progressPending (p : PortNo) (x : Port) (s : State) :
    (setPort p x s).progressPending = s.progressPending := rfl
@[simp] theorem setPort_line (p : PortNo) (x : Port) (s : State) :
    (setPort p x s).line = s.line := rfl
@[simp] theorem setPort_turn (p : PortNo) (x : Port) (s : State) :
    (setPort p x s).turn = s.turn := rfl
@[simp] theorem setPort_tallies (p : PortNo) (x : Port) (s : State) :
    (setPort p x s).tallies = s.tallies := rfl
@[simp] theorem setPort_resetHeld (p : PortNo) (x : Port) (s : State) :
    (setPort p x s).resetHeld = s.resetHeld := rfl
@[simp] theorem setPort_decisionDue (p : PortNo) (x : Port) (s : State) :
    (setPort p x s).decisionDue = s.decisionDue := rfl
@[simp] theorem setPort_pending (p : PortNo) (x : Port) (s : State) :
    (setPort p x s).pending = s.pending := rfl

/-! ### modPort -/

@[simp] theorem modPort_rx (p : PortNo) (f : Port → Port) (s : State) :
    (modPort p f s).rx = s.rx := rfl
@[simp] theorem modPort_rxdLevel (p : PortNo) (f : Port → Port) (s : State) :
    (modPort p f s).rxdLevel = s.rxdLevel := rfl
@[simp] theorem modPort_rxdChar (p : PortNo) (f : Port → Port) (s : State) :
    (modPort p f s).rxdChar = s.rxdChar := rfl
@[simp] theorem modPort_rate (p : PortNo) (f : Port → Port) (s : State) :
    (modPort p f s).rate = s.rate := rfl
@[simp] theorem modPort_link (p : PortNo) (f : Port → Port) (s : State) :
    (modPort p f s).link = s.link := rfl
@[simp] theorem modPort_silenceTimer (p : PortNo) (f : Port → Port) (s : State) :
    (modPort p f s).silenceTimer = s.silenceTimer := rfl
@[simp] theorem modPort_silenceCode (p : PortNo) (f : Port → Port) (s : State) :
    (modPort p f s).silenceCode = s.silenceCode := rfl
@[simp] theorem modPort_ac (p : PortNo) (f : Port → Port) (s : State) :
    (modPort p f s).ac = s.ac := rfl
@[simp] theorem modPort_stream (p : PortNo) (f : Port → Port) (s : State) :
    (modPort p f s).stream = s.stream := rfl
@[simp] theorem modPort_free (p : PortNo) (f : Port → Port) (s : State) :
    (modPort p f s).free = s.free := rfl
@[simp] theorem modPort_poolReserve (p : PortNo) (f : Port → Port) (s : State) :
    (modPort p f s).poolReserve = s.poolReserve := rfl
@[simp] theorem modPort_poolLow (p : PortNo) (f : Port → Port) (s : State) :
    (modPort p f s).poolLow = s.poolLow := rfl
@[simp] theorem modPort_fences (p : PortNo) (f : Port → Port) (s : State) :
    (modPort p f s).fences = s.fences := rfl
@[simp] theorem modPort_bus (p : PortNo) (f : Port → Port) (s : State) :
    (modPort p f s).bus = s.bus := rfl
@[simp] theorem modPort_tribRx (p : PortNo) (f : Port → Port) (s : State) :
    (modPort p f s).tribRx = s.tribRx := rfl
@[simp] theorem modPort_urgentPtr (p : PortNo) (f : Port → Port) (s : State) :
    (modPort p f s).urgentPtr = s.urgentPtr := rfl
@[simp] theorem modPort_normalPtr (p : PortNo) (f : Port → Port) (s : State) :
    (modPort p f s).normalPtr = s.normalPtr := rfl
@[simp] theorem modPort_attn (p : PortNo) (f : Port → Port) (s : State) :
    (modPort p f s).attn = s.attn := rfl
@[simp] theorem modPort_scan (p : PortNo) (f : Port → Port) (s : State) :
    (modPort p f s).scan = s.scan := rfl
@[simp] theorem modPort_nextIndex (p : PortNo) (f : Port → Port) (s : State) :
    (modPort p f s).nextIndex = s.nextIndex := rfl
@[simp] theorem modPort_alternation (p : PortNo) (f : Port → Port) (s : State) :
    (modPort p f s).alternation = s.alternation := rfl
@[simp] theorem modPort_scanEnable (p : PortNo) (f : Port → Port) (s : State) :
    (modPort p f s).scanEnable = s.scanEnable := rfl
@[simp] theorem modPort_reports (p : PortNo) (f : Port → Port) (s : State) :
    (modPort p f s).reports = s.reports := rfl
@[simp] theorem modPort_reservations (p : PortNo) (f : Port → Port) (s : State) :
    (modPort p f s).reservations = s.reservations := rfl
@[simp] theorem modPort_nextRC (p : PortNo) (f : Port → Port) (s : State) :
    (modPort p f s).nextRC = s.nextRC := rfl
@[simp] theorem modPort_ring (p : PortNo) (f : Port → Port) (s : State) :
    (modPort p f s).ring = s.ring := rfl
@[simp] theorem modPort_slot (p : PortNo) (f : Port → Port) (s : State) :
    (modPort p f s).slot = s.slot := rfl
@[simp] theorem modPort_streamPending (p : PortNo) (f : Port → Port) (s : State) :
    (modPort p f s).streamPending = s.streamPending := rfl
@[simp] theorem modPort_flowPending (p : PortNo) (f : Port → Port) (s : State) :
    (modPort p f s).flowPending = s.flowPending := rfl
@[simp] theorem modPort_progressPending (p : PortNo) (f : Port → Port) (s : State) :
    (modPort p f s).progressPending = s.progressPending := rfl
@[simp] theorem modPort_line (p : PortNo) (f : Port → Port) (s : State) :
    (modPort p f s).line = s.line := rfl
@[simp] theorem modPort_turn (p : PortNo) (f : Port → Port) (s : State) :
    (modPort p f s).turn = s.turn := rfl
@[simp] theorem modPort_tallies (p : PortNo) (f : Port → Port) (s : State) :
    (modPort p f s).tallies = s.tallies := rfl
@[simp] theorem modPort_resetHeld (p : PortNo) (f : Port → Port) (s : State) :
    (modPort p f s).resetHeld = s.resetHeld := rfl
@[simp] theorem modPort_decisionDue (p : PortNo) (f : Port → Port) (s : State) :
    (modPort p f s).decisionDue = s.decisionDue := rfl
@[simp] theorem modPort_pending (p : PortNo) (f : Port → Port) (s : State) :
    (modPort p f s).pending = s.pending := rfl

/-! ### setPortState -/

@[simp] theorem setPortState_rx (p : PortNo) (st : PortState) (s : State) :
    (setPortState p st s).rx = s.rx := rfl
@[simp] theorem setPortState_rxdLevel (p : PortNo) (st : PortState) (s : State) :
    (setPortState p st s).rxdLevel = s.rxdLevel := rfl
@[simp] theorem setPortState_rxdChar (p : PortNo) (st : PortState) (s : State) :
    (setPortState p st s).rxdChar = s.rxdChar := rfl
@[simp] theorem setPortState_rate (p : PortNo) (st : PortState) (s : State) :
    (setPortState p st s).rate = s.rate := rfl
@[simp] theorem setPortState_link (p : PortNo) (st : PortState) (s : State) :
    (setPortState p st s).link = s.link := rfl
@[simp] theorem setPortState_silenceTimer (p : PortNo) (st : PortState) (s : State) :
    (setPortState p st s).silenceTimer = s.silenceTimer := rfl
@[simp] theorem setPortState_silenceCode (p : PortNo) (st : PortState) (s : State) :
    (setPortState p st s).silenceCode = s.silenceCode := rfl
@[simp] theorem setPortState_ac (p : PortNo) (st : PortState) (s : State) :
    (setPortState p st s).ac = s.ac := rfl
@[simp] theorem setPortState_stream (p : PortNo) (st : PortState) (s : State) :
    (setPortState p st s).stream = s.stream := rfl
@[simp] theorem setPortState_free (p : PortNo) (st : PortState) (s : State) :
    (setPortState p st s).free = s.free := rfl
@[simp] theorem setPortState_poolReserve (p : PortNo) (st : PortState) (s : State) :
    (setPortState p st s).poolReserve = s.poolReserve := rfl
@[simp] theorem setPortState_poolLow (p : PortNo) (st : PortState) (s : State) :
    (setPortState p st s).poolLow = s.poolLow := rfl
@[simp] theorem setPortState_fences (p : PortNo) (st : PortState) (s : State) :
    (setPortState p st s).fences = s.fences := rfl
@[simp] theorem setPortState_bus (p : PortNo) (st : PortState) (s : State) :
    (setPortState p st s).bus = s.bus := rfl
@[simp] theorem setPortState_tribRx (p : PortNo) (st : PortState) (s : State) :
    (setPortState p st s).tribRx = s.tribRx := rfl
@[simp] theorem setPortState_urgentPtr (p : PortNo) (st : PortState) (s : State) :
    (setPortState p st s).urgentPtr = s.urgentPtr := rfl
@[simp] theorem setPortState_normalPtr (p : PortNo) (st : PortState) (s : State) :
    (setPortState p st s).normalPtr = s.normalPtr := rfl
@[simp] theorem setPortState_attn (p : PortNo) (st : PortState) (s : State) :
    (setPortState p st s).attn = s.attn := rfl
@[simp] theorem setPortState_scan (p : PortNo) (st : PortState) (s : State) :
    (setPortState p st s).scan = s.scan := rfl
@[simp] theorem setPortState_nextIndex (p : PortNo) (st : PortState) (s : State) :
    (setPortState p st s).nextIndex = s.nextIndex := rfl
@[simp] theorem setPortState_alternation (p : PortNo) (st : PortState) (s : State) :
    (setPortState p st s).alternation = s.alternation := rfl
@[simp] theorem setPortState_scanEnable (p : PortNo) (st : PortState) (s : State) :
    (setPortState p st s).scanEnable = s.scanEnable := rfl
@[simp] theorem setPortState_reports (p : PortNo) (st : PortState) (s : State) :
    (setPortState p st s).reports = s.reports := rfl
@[simp] theorem setPortState_reservations (p : PortNo) (st : PortState) (s : State) :
    (setPortState p st s).reservations = s.reservations := rfl
@[simp] theorem setPortState_nextRC (p : PortNo) (st : PortState) (s : State) :
    (setPortState p st s).nextRC = s.nextRC := rfl
@[simp] theorem setPortState_ring (p : PortNo) (st : PortState) (s : State) :
    (setPortState p st s).ring = s.ring := rfl
@[simp] theorem setPortState_slot (p : PortNo) (st : PortState) (s : State) :
    (setPortState p st s).slot = s.slot := rfl
@[simp] theorem setPortState_streamPending (p : PortNo) (st : PortState) (s : State) :
    (setPortState p st s).streamPending = s.streamPending := rfl
@[simp] theorem setPortState_flowPending (p : PortNo) (st : PortState) (s : State) :
    (setPortState p st s).flowPending = s.flowPending := rfl
@[simp] theorem setPortState_progressPending (p : PortNo) (st : PortState) (s : State) :
    (setPortState p st s).progressPending = s.progressPending := rfl
@[simp] theorem setPortState_line (p : PortNo) (st : PortState) (s : State) :
    (setPortState p st s).line = s.line := rfl
@[simp] theorem setPortState_turn (p : PortNo) (st : PortState) (s : State) :
    (setPortState p st s).turn = s.turn := rfl
@[simp] theorem setPortState_tallies (p : PortNo) (st : PortState) (s : State) :
    (setPortState p st s).tallies = s.tallies := rfl
@[simp] theorem setPortState_resetHeld (p : PortNo) (st : PortState) (s : State) :
    (setPortState p st s).resetHeld = s.resetHeld := rfl
@[simp] theorem setPortState_decisionDue (p : PortNo) (st : PortState) (s : State) :
    (setPortState p st s).decisionDue = s.decisionDue := rfl
@[simp] theorem setPortState_pending (p : PortNo) (st : PortState) (s : State) :
    (setPortState p st s).pending = s.pending := rfl

/-! ### stopBusyWait -/

@[simp] theorem stopBusyWait_rx (p : PortNo) (s : State) : (stopBusyWait p s).rx = s.rx := rfl
@[simp] theorem stopBusyWait_rxdLevel (p : PortNo) (s : State) :
    (stopBusyWait p s).rxdLevel = s.rxdLevel := rfl
@[simp] theorem stopBusyWait_rxdChar (p : PortNo) (s : State) :
    (stopBusyWait p s).rxdChar = s.rxdChar := rfl
@[simp] theorem stopBusyWait_rate (p : PortNo) (s : State) : (stopBusyWait p s).rate = s.rate := rfl
@[simp] theorem stopBusyWait_link (p : PortNo) (s : State) : (stopBusyWait p s).link = s.link := rfl
@[simp] theorem stopBusyWait_silenceTimer (p : PortNo) (s : State) :
    (stopBusyWait p s).silenceTimer = s.silenceTimer := rfl
@[simp] theorem stopBusyWait_silenceCode (p : PortNo) (s : State) :
    (stopBusyWait p s).silenceCode = s.silenceCode := rfl
@[simp] theorem stopBusyWait_ac (p : PortNo) (s : State) : (stopBusyWait p s).ac = s.ac := rfl
@[simp] theorem stopBusyWait_stream (p : PortNo) (s : State) :
    (stopBusyWait p s).stream = s.stream := rfl
@[simp] theorem stopBusyWait_free (p : PortNo) (s : State) : (stopBusyWait p s).free = s.free := rfl
@[simp] theorem stopBusyWait_poolReserve (p : PortNo) (s : State) :
    (stopBusyWait p s).poolReserve = s.poolReserve := rfl
@[simp] theorem stopBusyWait_poolLow (p : PortNo) (s : State) :
    (stopBusyWait p s).poolLow = s.poolLow := rfl
@[simp] theorem stopBusyWait_fences (p : PortNo) (s : State) :
    (stopBusyWait p s).fences = s.fences := rfl
@[simp] theorem stopBusyWait_bus (p : PortNo) (s : State) : (stopBusyWait p s).bus = s.bus := rfl
@[simp] theorem stopBusyWait_tribRx (p : PortNo) (s : State) :
    (stopBusyWait p s).tribRx = s.tribRx := rfl
@[simp] theorem stopBusyWait_urgentPtr (p : PortNo) (s : State) :
    (stopBusyWait p s).urgentPtr = s.urgentPtr := rfl
@[simp] theorem stopBusyWait_normalPtr (p : PortNo) (s : State) :
    (stopBusyWait p s).normalPtr = s.normalPtr := rfl
@[simp] theorem stopBusyWait_attn (p : PortNo) (s : State) : (stopBusyWait p s).attn = s.attn := rfl
@[simp] theorem stopBusyWait_scan (p : PortNo) (s : State) : (stopBusyWait p s).scan = s.scan := rfl
@[simp] theorem stopBusyWait_nextIndex (p : PortNo) (s : State) :
    (stopBusyWait p s).nextIndex = s.nextIndex := rfl
@[simp] theorem stopBusyWait_alternation (p : PortNo) (s : State) :
    (stopBusyWait p s).alternation = s.alternation := rfl
@[simp] theorem stopBusyWait_scanEnable (p : PortNo) (s : State) :
    (stopBusyWait p s).scanEnable = s.scanEnable := rfl
@[simp] theorem stopBusyWait_reports (p : PortNo) (s : State) :
    (stopBusyWait p s).reports = s.reports := rfl
@[simp] theorem stopBusyWait_reservations (p : PortNo) (s : State) :
    (stopBusyWait p s).reservations = s.reservations := rfl
@[simp] theorem stopBusyWait_nextRC (p : PortNo) (s : State) :
    (stopBusyWait p s).nextRC = s.nextRC := rfl
@[simp] theorem stopBusyWait_ring (p : PortNo) (s : State) : (stopBusyWait p s).ring = s.ring := rfl
@[simp] theorem stopBusyWait_slot (p : PortNo) (s : State) : (stopBusyWait p s).slot = s.slot := rfl
@[simp] theorem stopBusyWait_streamPending (p : PortNo) (s : State) :
    (stopBusyWait p s).streamPending = s.streamPending := rfl
@[simp] theorem stopBusyWait_flowPending (p : PortNo) (s : State) :
    (stopBusyWait p s).flowPending = s.flowPending := rfl
@[simp] theorem stopBusyWait_progressPending (p : PortNo) (s : State) :
    (stopBusyWait p s).progressPending = s.progressPending := rfl
@[simp] theorem stopBusyWait_line (p : PortNo) (s : State) : (stopBusyWait p s).line = s.line := rfl
@[simp] theorem stopBusyWait_turn (p : PortNo) (s : State) : (stopBusyWait p s).turn = s.turn := rfl
@[simp] theorem stopBusyWait_tallies (p : PortNo) (s : State) :
    (stopBusyWait p s).tallies = s.tallies := rfl
@[simp] theorem stopBusyWait_resetHeld (p : PortNo) (s : State) :
    (stopBusyWait p s).resetHeld = s.resetHeld := rfl
@[simp] theorem stopBusyWait_decisionDue (p : PortNo) (s : State) :
    (stopBusyWait p s).decisionDue = s.decisionDue := rfl
@[simp] theorem stopBusyWait_pending (p : PortNo) (s : State) :
    (stopBusyWait p s).pending = s.pending := rfl

/-! ### setQueue -/

@[simp] theorem setQueue_rx (p : PortNo) (q : List Item) (s : State) :
    (setQueue p q s).rx = s.rx := rfl
@[simp] theorem setQueue_rxdLevel (p : PortNo) (q : List Item) (s : State) :
    (setQueue p q s).rxdLevel = s.rxdLevel := rfl
@[simp] theorem setQueue_rxdChar (p : PortNo) (q : List Item) (s : State) :
    (setQueue p q s).rxdChar = s.rxdChar := rfl
@[simp] theorem setQueue_rate (p : PortNo) (q : List Item) (s : State) :
    (setQueue p q s).rate = s.rate := rfl
@[simp] theorem setQueue_link (p : PortNo) (q : List Item) (s : State) :
    (setQueue p q s).link = s.link := rfl
@[simp] theorem setQueue_silenceTimer (p : PortNo) (q : List Item) (s : State) :
    (setQueue p q s).silenceTimer = s.silenceTimer := rfl
@[simp] theorem setQueue_silenceCode (p : PortNo) (q : List Item) (s : State) :
    (setQueue p q s).silenceCode = s.silenceCode := rfl
@[simp] theorem setQueue_ac (p : PortNo) (q : List Item) (s : State) :
    (setQueue p q s).ac = s.ac := rfl
@[simp] theorem setQueue_stream (p : PortNo) (q : List Item) (s : State) :
    (setQueue p q s).stream = s.stream := rfl
@[simp] theorem setQueue_poolReserve (p : PortNo) (q : List Item) (s : State) :
    (setQueue p q s).poolReserve = s.poolReserve := rfl
@[simp] theorem setQueue_poolLow (p : PortNo) (q : List Item) (s : State) :
    (setQueue p q s).poolLow = s.poolLow := rfl
@[simp] theorem setQueue_fences (p : PortNo) (q : List Item) (s : State) :
    (setQueue p q s).fences = s.fences := rfl
@[simp] theorem setQueue_bus (p : PortNo) (q : List Item) (s : State) :
    (setQueue p q s).bus = s.bus := rfl
@[simp] theorem setQueue_tribRx (p : PortNo) (q : List Item) (s : State) :
    (setQueue p q s).tribRx = s.tribRx := rfl
@[simp] theorem setQueue_urgentPtr (p : PortNo) (q : List Item) (s : State) :
    (setQueue p q s).urgentPtr = s.urgentPtr := rfl
@[simp] theorem setQueue_normalPtr (p : PortNo) (q : List Item) (s : State) :
    (setQueue p q s).normalPtr = s.normalPtr := rfl
@[simp] theorem setQueue_attn (p : PortNo) (q : List Item) (s : State) :
    (setQueue p q s).attn = s.attn := rfl
@[simp] theorem setQueue_scan (p : PortNo) (q : List Item) (s : State) :
    (setQueue p q s).scan = s.scan := rfl
@[simp] theorem setQueue_nextIndex (p : PortNo) (q : List Item) (s : State) :
    (setQueue p q s).nextIndex = s.nextIndex := rfl
@[simp] theorem setQueue_alternation (p : PortNo) (q : List Item) (s : State) :
    (setQueue p q s).alternation = s.alternation := rfl
@[simp] theorem setQueue_scanEnable (p : PortNo) (q : List Item) (s : State) :
    (setQueue p q s).scanEnable = s.scanEnable := rfl
@[simp] theorem setQueue_reports (p : PortNo) (q : List Item) (s : State) :
    (setQueue p q s).reports = s.reports := rfl
@[simp] theorem setQueue_reservations (p : PortNo) (q : List Item) (s : State) :
    (setQueue p q s).reservations = s.reservations := rfl
@[simp] theorem setQueue_nextRC (p : PortNo) (q : List Item) (s : State) :
    (setQueue p q s).nextRC = s.nextRC := rfl
@[simp] theorem setQueue_ring (p : PortNo) (q : List Item) (s : State) :
    (setQueue p q s).ring = s.ring := rfl
@[simp] theorem setQueue_slot (p : PortNo) (q : List Item) (s : State) :
    (setQueue p q s).slot = s.slot := rfl
@[simp] theorem setQueue_streamPending (p : PortNo) (q : List Item) (s : State) :
    (setQueue p q s).streamPending = s.streamPending := rfl
@[simp] theorem setQueue_flowPending (p : PortNo) (q : List Item) (s : State) :
    (setQueue p q s).flowPending = s.flowPending := rfl
@[simp] theorem setQueue_progressPending (p : PortNo) (q : List Item) (s : State) :
    (setQueue p q s).progressPending = s.progressPending := rfl
@[simp] theorem setQueue_line (p : PortNo) (q : List Item) (s : State) :
    (setQueue p q s).line = s.line := rfl
@[simp] theorem setQueue_turn (p : PortNo) (q : List Item) (s : State) :
    (setQueue p q s).turn = s.turn := rfl
@[simp] theorem setQueue_tallies (p : PortNo) (q : List Item) (s : State) :
    (setQueue p q s).tallies = s.tallies := rfl
@[simp] theorem setQueue_resetHeld (p : PortNo) (q : List Item) (s : State) :
    (setQueue p q s).resetHeld = s.resetHeld := rfl
@[simp] theorem setQueue_decisionDue (p : PortNo) (q : List Item) (s : State) :
    (setQueue p q s).decisionDue = s.decisionDue := rfl
@[simp] theorem setQueue_pending (p : PortNo) (q : List Item) (s : State) :
    (setQueue p q s).pending = s.pending := rfl

/-! ### writeSettled -/

@[simp] theorem writeSettled_rx (p : PortNo) (c : Count) (s : State) :
    (writeSettled p c s).rx = s.rx := rfl
@[simp] theorem writeSettled_rxdLevel (p : PortNo) (c : Count) (s : State) :
    (writeSettled p c s).rxdLevel = s.rxdLevel := rfl
@[simp] theorem writeSettled_rxdChar (p : PortNo) (c : Count) (s : State) :
    (writeSettled p c s).rxdChar = s.rxdChar := rfl
@[simp] theorem writeSettled_rate (p : PortNo) (c : Count) (s : State) :
    (writeSettled p c s).rate = s.rate := rfl
@[simp] theorem writeSettled_link (p : PortNo) (c : Count) (s : State) :
    (writeSettled p c s).link = s.link := rfl
@[simp] theorem writeSettled_silenceTimer (p : PortNo) (c : Count) (s : State) :
    (writeSettled p c s).silenceTimer = s.silenceTimer := rfl
@[simp] theorem writeSettled_silenceCode (p : PortNo) (c : Count) (s : State) :
    (writeSettled p c s).silenceCode = s.silenceCode := rfl
@[simp] theorem writeSettled_ac (p : PortNo) (c : Count) (s : State) :
    (writeSettled p c s).ac = s.ac := rfl
@[simp] theorem writeSettled_stream (p : PortNo) (c : Count) (s : State) :
    (writeSettled p c s).stream = s.stream := rfl
@[simp] theorem writeSettled_free (p : PortNo) (c : Count) (s : State) :
    (writeSettled p c s).free = s.free := rfl
@[simp] theorem writeSettled_poolReserve (p : PortNo) (c : Count) (s : State) :
    (writeSettled p c s).poolReserve = s.poolReserve := rfl
@[simp] theorem writeSettled_poolLow (p : PortNo) (c : Count) (s : State) :
    (writeSettled p c s).poolLow = s.poolLow := rfl
@[simp] theorem writeSettled_fences (p : PortNo) (c : Count) (s : State) :
    (writeSettled p c s).fences = s.fences := rfl
@[simp] theorem writeSettled_bus (p : PortNo) (c : Count) (s : State) :
    (writeSettled p c s).bus = s.bus := rfl
@[simp] theorem writeSettled_tribRx (p : PortNo) (c : Count) (s : State) :
    (writeSettled p c s).tribRx = s.tribRx := rfl
@[simp] theorem writeSettled_urgentPtr (p : PortNo) (c : Count) (s : State) :
    (writeSettled p c s).urgentPtr = s.urgentPtr := rfl
@[simp] theorem writeSettled_normalPtr (p : PortNo) (c : Count) (s : State) :
    (writeSettled p c s).normalPtr = s.normalPtr := rfl
@[simp] theorem writeSettled_attn (p : PortNo) (c : Count) (s : State) :
    (writeSettled p c s).attn = s.attn := rfl
@[simp] theorem writeSettled_scan (p : PortNo) (c : Count) (s : State) :
    (writeSettled p c s).scan = s.scan := rfl
@[simp] theorem writeSettled_nextIndex (p : PortNo) (c : Count) (s : State) :
    (writeSettled p c s).nextIndex = s.nextIndex := rfl
@[simp] theorem writeSettled_alternation (p : PortNo) (c : Count) (s : State) :
    (writeSettled p c s).alternation = s.alternation := rfl
@[simp] theorem writeSettled_scanEnable (p : PortNo) (c : Count) (s : State) :
    (writeSettled p c s).scanEnable = s.scanEnable := rfl
@[simp] theorem writeSettled_reports (p : PortNo) (c : Count) (s : State) :
    (writeSettled p c s).reports = s.reports := rfl
@[simp] theorem writeSettled_reservations (p : PortNo) (c : Count) (s : State) :
    (writeSettled p c s).reservations = s.reservations := rfl
@[simp] theorem writeSettled_nextRC (p : PortNo) (c : Count) (s : State) :
    (writeSettled p c s).nextRC = s.nextRC := rfl
@[simp] theorem writeSettled_ring (p : PortNo) (c : Count) (s : State) :
    (writeSettled p c s).ring = s.ring := rfl
@[simp] theorem writeSettled_slot (p : PortNo) (c : Count) (s : State) :
    (writeSettled p c s).slot = s.slot := rfl
@[simp] theorem writeSettled_streamPending (p : PortNo) (c : Count) (s : State) :
    (writeSettled p c s).streamPending = s.streamPending := rfl
@[simp] theorem writeSettled_flowPending (p : PortNo) (c : Count) (s : State) :
    (writeSettled p c s).flowPending = s.flowPending := rfl
@[simp] theorem writeSettled_line (p : PortNo) (c : Count) (s : State) :
    (writeSettled p c s).line = s.line := rfl
@[simp] theorem writeSettled_turn (p : PortNo) (c : Count) (s : State) :
    (writeSettled p c s).turn = s.turn := rfl
@[simp] theorem writeSettled_tallies (p : PortNo) (c : Count) (s : State) :
    (writeSettled p c s).tallies = s.tallies := rfl
@[simp] theorem writeSettled_resetHeld (p : PortNo) (c : Count) (s : State) :
    (writeSettled p c s).resetHeld = s.resetHeld := rfl
@[simp] theorem writeSettled_decisionDue (p : PortNo) (c : Count) (s : State) :
    (writeSettled p c s).decisionDue = s.decisionDue := rfl
@[simp] theorem writeSettled_pending (p : PortNo) (c : Count) (s : State) :
    (writeSettled p c s).pending = s.pending := rfl

/-! ### setFence -/

@[simp] theorem setFence_rx (i : FenceNo) (e : FenceEntry) (s : State) :
    (setFence i e s).rx = s.rx := rfl
@[simp] theorem setFence_rxdLevel (i : FenceNo) (e : FenceEntry) (s : State) :
    (setFence i e s).rxdLevel = s.rxdLevel := rfl
@[simp] theorem setFence_rxdChar (i : FenceNo) (e : FenceEntry) (s : State) :
    (setFence i e s).rxdChar = s.rxdChar := rfl
@[simp] theorem setFence_rate (i : FenceNo) (e : FenceEntry) (s : State) :
    (setFence i e s).rate = s.rate := rfl
@[simp] theorem setFence_link (i : FenceNo) (e : FenceEntry) (s : State) :
    (setFence i e s).link = s.link := rfl
@[simp] theorem setFence_silenceTimer (i : FenceNo) (e : FenceEntry) (s : State) :
    (setFence i e s).silenceTimer = s.silenceTimer := rfl
@[simp] theorem setFence_silenceCode (i : FenceNo) (e : FenceEntry) (s : State) :
    (setFence i e s).silenceCode = s.silenceCode := rfl
@[simp] theorem setFence_ac (i : FenceNo) (e : FenceEntry) (s : State) :
    (setFence i e s).ac = s.ac := rfl
@[simp] theorem setFence_stream (i : FenceNo) (e : FenceEntry) (s : State) :
    (setFence i e s).stream = s.stream := rfl
@[simp] theorem setFence_free (i : FenceNo) (e : FenceEntry) (s : State) :
    (setFence i e s).free = s.free := rfl
@[simp] theorem setFence_poolReserve (i : FenceNo) (e : FenceEntry) (s : State) :
    (setFence i e s).poolReserve = s.poolReserve := rfl
@[simp] theorem setFence_poolLow (i : FenceNo) (e : FenceEntry) (s : State) :
    (setFence i e s).poolLow = s.poolLow := rfl
@[simp] theorem setFence_ports (i : FenceNo) (e : FenceEntry) (s : State) :
    (setFence i e s).ports = s.ports := rfl
@[simp] theorem setFence_bus (i : FenceNo) (e : FenceEntry) (s : State) :
    (setFence i e s).bus = s.bus := rfl
@[simp] theorem setFence_tribRx (i : FenceNo) (e : FenceEntry) (s : State) :
    (setFence i e s).tribRx = s.tribRx := rfl
@[simp] theorem setFence_urgentPtr (i : FenceNo) (e : FenceEntry) (s : State) :
    (setFence i e s).urgentPtr = s.urgentPtr := rfl
@[simp] theorem setFence_normalPtr (i : FenceNo) (e : FenceEntry) (s : State) :
    (setFence i e s).normalPtr = s.normalPtr := rfl
@[simp] theorem setFence_attn (i : FenceNo) (e : FenceEntry) (s : State) :
    (setFence i e s).attn = s.attn := rfl
@[simp] theorem setFence_scan (i : FenceNo) (e : FenceEntry) (s : State) :
    (setFence i e s).scan = s.scan := rfl
@[simp] theorem setFence_nextIndex (i : FenceNo) (e : FenceEntry) (s : State) :
    (setFence i e s).nextIndex = s.nextIndex := rfl
@[simp] theorem setFence_alternation (i : FenceNo) (e : FenceEntry) (s : State) :
    (setFence i e s).alternation = s.alternation := rfl
@[simp] theorem setFence_scanEnable (i : FenceNo) (e : FenceEntry) (s : State) :
    (setFence i e s).scanEnable = s.scanEnable := rfl
@[simp] theorem setFence_reports (i : FenceNo) (e : FenceEntry) (s : State) :
    (setFence i e s).reports = s.reports := rfl
@[simp] theorem setFence_reservations (i : FenceNo) (e : FenceEntry) (s : State) :
    (setFence i e s).reservations = s.reservations := rfl
@[simp] theorem setFence_nextRC (i : FenceNo) (e : FenceEntry) (s : State) :
    (setFence i e s).nextRC = s.nextRC := rfl
@[simp] theorem setFence_ring (i : FenceNo) (e : FenceEntry) (s : State) :
    (setFence i e s).ring = s.ring := rfl
@[simp] theorem setFence_slot (i : FenceNo) (e : FenceEntry) (s : State) :
    (setFence i e s).slot = s.slot := rfl
@[simp] theorem setFence_streamPending (i : FenceNo) (e : FenceEntry) (s : State) :
    (setFence i e s).streamPending = s.streamPending := rfl
@[simp] theorem setFence_flowPending (i : FenceNo) (e : FenceEntry) (s : State) :
    (setFence i e s).flowPending = s.flowPending := rfl
@[simp] theorem setFence_progressPending (i : FenceNo) (e : FenceEntry) (s : State) :
    (setFence i e s).progressPending = s.progressPending := rfl
@[simp] theorem setFence_line (i : FenceNo) (e : FenceEntry) (s : State) :
    (setFence i e s).line = s.line := rfl
@[simp] theorem setFence_turn (i : FenceNo) (e : FenceEntry) (s : State) :
    (setFence i e s).turn = s.turn := rfl
@[simp] theorem setFence_tallies (i : FenceNo) (e : FenceEntry) (s : State) :
    (setFence i e s).tallies = s.tallies := rfl
@[simp] theorem setFence_resetHeld (i : FenceNo) (e : FenceEntry) (s : State) :
    (setFence i e s).resetHeld = s.resetHeld := rfl
@[simp] theorem setFence_decisionDue (i : FenceNo) (e : FenceEntry) (s : State) :
    (setFence i e s).decisionDue = s.decisionDue := rfl
@[simp] theorem setFence_pending (i : FenceNo) (e : FenceEntry) (s : State) :
    (setFence i e s).pending = s.pending := rfl

/-! ### bump -/

@[simp] theorem bump_rx (t : Tally) (s : State) : (bump t s).rx = s.rx := rfl
@[simp] theorem bump_rxdLevel (t : Tally) (s : State) : (bump t s).rxdLevel = s.rxdLevel := rfl
@[simp] theorem bump_rxdChar (t : Tally) (s : State) : (bump t s).rxdChar = s.rxdChar := rfl
@[simp] theorem bump_rate (t : Tally) (s : State) : (bump t s).rate = s.rate := rfl
@[simp] theorem bump_link (t : Tally) (s : State) : (bump t s).link = s.link := rfl
@[simp] theorem bump_silenceTimer (t : Tally) (s : State) :
    (bump t s).silenceTimer = s.silenceTimer := rfl
@[simp] theorem bump_silenceCode (t : Tally) (s : State) :
    (bump t s).silenceCode = s.silenceCode := rfl
@[simp] theorem bump_ac (t : Tally) (s : State) : (bump t s).ac = s.ac := rfl
@[simp] theorem bump_stream (t : Tally) (s : State) : (bump t s).stream = s.stream := rfl
@[simp] theorem bump_free (t : Tally) (s : State) : (bump t s).free = s.free := rfl
@[simp] theorem bump_poolReserve (t : Tally) (s : State) :
    (bump t s).poolReserve = s.poolReserve := rfl
@[simp] theorem bump_poolLow (t : Tally) (s : State) : (bump t s).poolLow = s.poolLow := rfl
@[simp] theorem bump_ports (t : Tally) (s : State) : (bump t s).ports = s.ports := rfl
@[simp] theorem bump_fences (t : Tally) (s : State) : (bump t s).fences = s.fences := rfl
@[simp] theorem bump_bus (t : Tally) (s : State) : (bump t s).bus = s.bus := rfl
@[simp] theorem bump_tribRx (t : Tally) (s : State) : (bump t s).tribRx = s.tribRx := rfl
@[simp] theorem bump_urgentPtr (t : Tally) (s : State) : (bump t s).urgentPtr = s.urgentPtr := rfl
@[simp] theorem bump_normalPtr (t : Tally) (s : State) : (bump t s).normalPtr = s.normalPtr := rfl
@[simp] theorem bump_attn (t : Tally) (s : State) : (bump t s).attn = s.attn := rfl
@[simp] theorem bump_scan (t : Tally) (s : State) : (bump t s).scan = s.scan := rfl
@[simp] theorem bump_nextIndex (t : Tally) (s : State) : (bump t s).nextIndex = s.nextIndex := rfl
@[simp] theorem bump_alternation (t : Tally) (s : State) :
    (bump t s).alternation = s.alternation := rfl
@[simp] theorem bump_scanEnable (t : Tally) (s : State) :
    (bump t s).scanEnable = s.scanEnable := rfl
@[simp] theorem bump_reports (t : Tally) (s : State) : (bump t s).reports = s.reports := rfl
@[simp] theorem bump_reservations (t : Tally) (s : State) :
    (bump t s).reservations = s.reservations := rfl
@[simp] theorem bump_nextRC (t : Tally) (s : State) : (bump t s).nextRC = s.nextRC := rfl
@[simp] theorem bump_ring (t : Tally) (s : State) : (bump t s).ring = s.ring := rfl
@[simp] theorem bump_slot (t : Tally) (s : State) : (bump t s).slot = s.slot := rfl
@[simp] theorem bump_streamPending (t : Tally) (s : State) :
    (bump t s).streamPending = s.streamPending := rfl
@[simp] theorem bump_flowPending (t : Tally) (s : State) :
    (bump t s).flowPending = s.flowPending := rfl
@[simp] theorem bump_progressPending (t : Tally) (s : State) :
    (bump t s).progressPending = s.progressPending := rfl
@[simp] theorem bump_line (t : Tally) (s : State) : (bump t s).line = s.line := rfl
@[simp] theorem bump_turn (t : Tally) (s : State) : (bump t s).turn = s.turn := rfl
@[simp] theorem bump_resetHeld (t : Tally) (s : State) : (bump t s).resetHeld = s.resetHeld := rfl
@[simp] theorem bump_decisionDue (t : Tally) (s : State) :
    (bump t s).decisionDue = s.decisionDue := rfl
@[simp] theorem bump_pending (t : Tally) (s : State) : (bump t s).pending = s.pending := rfl

/-! ### callArbiter -/

@[simp] theorem callArbiter_rx (s : State) : (callArbiter s).rx = s.rx := rfl
@[simp] theorem callArbiter_rxdLevel (s : State) : (callArbiter s).rxdLevel = s.rxdLevel := rfl
@[simp] theorem callArbiter_rxdChar (s : State) : (callArbiter s).rxdChar = s.rxdChar := rfl
@[simp] theorem callArbiter_rate (s : State) : (callArbiter s).rate = s.rate := rfl
@[simp] theorem callArbiter_link (s : State) : (callArbiter s).link = s.link := rfl
@[simp] theorem callArbiter_silenceTimer (s : State) :
    (callArbiter s).silenceTimer = s.silenceTimer := rfl
@[simp] theorem callArbiter_silenceCode (s : State) :
    (callArbiter s).silenceCode = s.silenceCode := rfl
@[simp] theorem callArbiter_ac (s : State) : (callArbiter s).ac = s.ac := rfl
@[simp] theorem callArbiter_stream (s : State) : (callArbiter s).stream = s.stream := rfl
@[simp] theorem callArbiter_free (s : State) : (callArbiter s).free = s.free := rfl
@[simp] theorem callArbiter_poolReserve (s : State) :
    (callArbiter s).poolReserve = s.poolReserve := rfl
@[simp] theorem callArbiter_poolLow (s : State) : (callArbiter s).poolLow = s.poolLow := rfl
@[simp] theorem callArbiter_ports (s : State) : (callArbiter s).ports = s.ports := rfl
@[simp] theorem callArbiter_fences (s : State) : (callArbiter s).fences = s.fences := rfl
@[simp] theorem callArbiter_bus (s : State) : (callArbiter s).bus = s.bus := rfl
@[simp] theorem callArbiter_tribRx (s : State) : (callArbiter s).tribRx = s.tribRx := rfl
@[simp] theorem callArbiter_urgentPtr (s : State) : (callArbiter s).urgentPtr = s.urgentPtr := rfl
@[simp] theorem callArbiter_normalPtr (s : State) : (callArbiter s).normalPtr = s.normalPtr := rfl
@[simp] theorem callArbiter_attn (s : State) : (callArbiter s).attn = s.attn := rfl
@[simp] theorem callArbiter_scan (s : State) : (callArbiter s).scan = s.scan := rfl
@[simp] theorem callArbiter_nextIndex (s : State) : (callArbiter s).nextIndex = s.nextIndex := rfl
@[simp] theorem callArbiter_alternation (s : State) :
    (callArbiter s).alternation = s.alternation := rfl
@[simp] theorem callArbiter_scanEnable (s : State) :
    (callArbiter s).scanEnable = s.scanEnable := rfl
@[simp] theorem callArbiter_reports (s : State) : (callArbiter s).reports = s.reports := rfl
@[simp] theorem callArbiter_reservations (s : State) :
    (callArbiter s).reservations = s.reservations := rfl
@[simp] theorem callArbiter_nextRC (s : State) : (callArbiter s).nextRC = s.nextRC := rfl
@[simp] theorem callArbiter_ring (s : State) : (callArbiter s).ring = s.ring := rfl
@[simp] theorem callArbiter_slot (s : State) : (callArbiter s).slot = s.slot := rfl
@[simp] theorem callArbiter_streamPending (s : State) :
    (callArbiter s).streamPending = s.streamPending := rfl
@[simp] theorem callArbiter_flowPending (s : State) :
    (callArbiter s).flowPending = s.flowPending := rfl
@[simp] theorem callArbiter_progressPending (s : State) :
    (callArbiter s).progressPending = s.progressPending := rfl
@[simp] theorem callArbiter_line (s : State) : (callArbiter s).line = s.line := rfl
@[simp] theorem callArbiter_turn (s : State) : (callArbiter s).turn = s.turn := rfl
@[simp] theorem callArbiter_tallies (s : State) : (callArbiter s).tallies = s.tallies := rfl
@[simp] theorem callArbiter_resetHeld (s : State) : (callArbiter s).resetHeld = s.resetHeld := rfl
@[simp] theorem callArbiter_pending (s : State) : (callArbiter s).pending = s.pending := rfl

/-! ### takeReservation -/

@[simp] theorem takeReservation_rx (s : State) : (takeReservation s).rx = s.rx := rfl
@[simp] theorem takeReservation_rxdLevel (s : State) :
    (takeReservation s).rxdLevel = s.rxdLevel := rfl
@[simp] theorem takeReservation_rxdChar (s : State) : (takeReservation s).rxdChar = s.rxdChar := rfl
@[simp] theorem takeReservation_rate (s : State) : (takeReservation s).rate = s.rate := rfl
@[simp] theorem takeReservation_link (s : State) : (takeReservation s).link = s.link := rfl
@[simp] theorem takeReservation_silenceTimer (s : State) :
    (takeReservation s).silenceTimer = s.silenceTimer := rfl
@[simp] theorem takeReservation_silenceCode (s : State) :
    (takeReservation s).silenceCode = s.silenceCode := rfl
@[simp] theorem takeReservation_ac (s : State) : (takeReservation s).ac = s.ac := rfl
@[simp] theorem takeReservation_stream (s : State) : (takeReservation s).stream = s.stream := rfl
@[simp] theorem takeReservation_free (s : State) : (takeReservation s).free = s.free := rfl
@[simp] theorem takeReservation_poolReserve (s : State) :
    (takeReservation s).poolReserve = s.poolReserve := rfl
@[simp] theorem takeReservation_poolLow (s : State) : (takeReservation s).poolLow = s.poolLow := rfl
@[simp] theorem takeReservation_ports (s : State) : (takeReservation s).ports = s.ports := rfl
@[simp] theorem takeReservation_fences (s : State) : (takeReservation s).fences = s.fences := rfl
@[simp] theorem takeReservation_bus (s : State) : (takeReservation s).bus = s.bus := rfl
@[simp] theorem takeReservation_tribRx (s : State) : (takeReservation s).tribRx = s.tribRx := rfl
@[simp] theorem takeReservation_urgentPtr (s : State) :
    (takeReservation s).urgentPtr = s.urgentPtr := rfl
@[simp] theorem takeReservation_normalPtr (s : State) :
    (takeReservation s).normalPtr = s.normalPtr := rfl
@[simp] theorem takeReservation_attn (s : State) : (takeReservation s).attn = s.attn := rfl
@[simp] theorem takeReservation_scan (s : State) : (takeReservation s).scan = s.scan := rfl
@[simp] theorem takeReservation_nextIndex (s : State) :
    (takeReservation s).nextIndex = s.nextIndex := rfl
@[simp] theorem takeReservation_alternation (s : State) :
    (takeReservation s).alternation = s.alternation := rfl
@[simp] theorem takeReservation_scanEnable (s : State) :
    (takeReservation s).scanEnable = s.scanEnable := rfl
@[simp] theorem takeReservation_reports (s : State) : (takeReservation s).reports = s.reports := rfl
@[simp] theorem takeReservation_nextRC (s : State) : (takeReservation s).nextRC = s.nextRC := rfl
@[simp] theorem takeReservation_ring (s : State) : (takeReservation s).ring = s.ring := rfl
@[simp] theorem takeReservation_slot (s : State) : (takeReservation s).slot = s.slot := rfl
@[simp] theorem takeReservation_streamPending (s : State) :
    (takeReservation s).streamPending = s.streamPending := rfl
@[simp] theorem takeReservation_flowPending (s : State) :
    (takeReservation s).flowPending = s.flowPending := rfl
@[simp] theorem takeReservation_progressPending (s : State) :
    (takeReservation s).progressPending = s.progressPending := rfl
@[simp] theorem takeReservation_line (s : State) : (takeReservation s).line = s.line := rfl
@[simp] theorem takeReservation_turn (s : State) : (takeReservation s).turn = s.turn := rfl
@[simp] theorem takeReservation_tallies (s : State) : (takeReservation s).tallies = s.tallies := rfl
@[simp] theorem takeReservation_resetHeld (s : State) :
    (takeReservation s).resetHeld = s.resetHeld := rfl
@[simp] theorem takeReservation_decisionDue (s : State) :
    (takeReservation s).decisionDue = s.decisionDue := rfl
@[simp] theorem takeReservation_pending (s : State) : (takeReservation s).pending = s.pending := rfl

/-! ### returnReservation -/

@[simp] theorem returnReservation_rx (s : State) : (returnReservation s).rx = s.rx := rfl
@[simp] theorem returnReservation_rxdLevel (s : State) :
    (returnReservation s).rxdLevel = s.rxdLevel := rfl
@[simp] theorem returnReservation_rxdChar (s : State) :
    (returnReservation s).rxdChar = s.rxdChar := rfl
@[simp] theorem returnReservation_rate (s : State) : (returnReservation s).rate = s.rate := rfl
@[simp] theorem returnReservation_link (s : State) : (returnReservation s).link = s.link := rfl
@[simp] theorem returnReservation_silenceTimer (s : State) :
    (returnReservation s).silenceTimer = s.silenceTimer := rfl
@[simp] theorem returnReservation_silenceCode (s : State) :
    (returnReservation s).silenceCode = s.silenceCode := rfl
@[simp] theorem returnReservation_ac (s : State) : (returnReservation s).ac = s.ac := rfl
@[simp] theorem returnReservation_stream (s : State) :
    (returnReservation s).stream = s.stream := rfl
@[simp] theorem returnReservation_free (s : State) : (returnReservation s).free = s.free := rfl
@[simp] theorem returnReservation_poolReserve (s : State) :
    (returnReservation s).poolReserve = s.poolReserve := rfl
@[simp] theorem returnReservation_poolLow (s : State) :
    (returnReservation s).poolLow = s.poolLow := rfl
@[simp] theorem returnReservation_ports (s : State) : (returnReservation s).ports = s.ports := rfl
@[simp] theorem returnReservation_fences (s : State) :
    (returnReservation s).fences = s.fences := rfl
@[simp] theorem returnReservation_bus (s : State) : (returnReservation s).bus = s.bus := rfl
@[simp] theorem returnReservation_tribRx (s : State) :
    (returnReservation s).tribRx = s.tribRx := rfl
@[simp] theorem returnReservation_urgentPtr (s : State) :
    (returnReservation s).urgentPtr = s.urgentPtr := rfl
@[simp] theorem returnReservation_normalPtr (s : State) :
    (returnReservation s).normalPtr = s.normalPtr := rfl
@[simp] theorem returnReservation_attn (s : State) : (returnReservation s).attn = s.attn := rfl
@[simp] theorem returnReservation_scan (s : State) : (returnReservation s).scan = s.scan := rfl
@[simp] theorem returnReservation_nextIndex (s : State) :
    (returnReservation s).nextIndex = s.nextIndex := rfl
@[simp] theorem returnReservation_alternation (s : State) :
    (returnReservation s).alternation = s.alternation := rfl
@[simp] theorem returnReservation_scanEnable (s : State) :
    (returnReservation s).scanEnable = s.scanEnable := rfl
@[simp] theorem returnReservation_reports (s : State) :
    (returnReservation s).reports = s.reports := rfl
@[simp] theorem returnReservation_nextRC (s : State) :
    (returnReservation s).nextRC = s.nextRC := rfl
@[simp] theorem returnReservation_ring (s : State) : (returnReservation s).ring = s.ring := rfl
@[simp] theorem returnReservation_slot (s : State) : (returnReservation s).slot = s.slot := rfl
@[simp] theorem returnReservation_streamPending (s : State) :
    (returnReservation s).streamPending = s.streamPending := rfl
@[simp] theorem returnReservation_flowPending (s : State) :
    (returnReservation s).flowPending = s.flowPending := rfl
@[simp] theorem returnReservation_progressPending (s : State) :
    (returnReservation s).progressPending = s.progressPending := rfl
@[simp] theorem returnReservation_line (s : State) : (returnReservation s).line = s.line := rfl
@[simp] theorem returnReservation_turn (s : State) : (returnReservation s).turn = s.turn := rfl
@[simp] theorem returnReservation_tallies (s : State) :
    (returnReservation s).tallies = s.tallies := rfl
@[simp] theorem returnReservation_resetHeld (s : State) :
    (returnReservation s).resetHeld = s.resetHeld := rfl
@[simp] theorem returnReservation_pending (s : State) :
    (returnReservation s).pending = s.pending := rfl

/-! ### queueReport -/

@[simp] theorem queueReport_rx (b : ReportBody) (s : State) : (queueReport b s).rx = s.rx := rfl
@[simp] theorem queueReport_rxdLevel (b : ReportBody) (s : State) :
    (queueReport b s).rxdLevel = s.rxdLevel := rfl
@[simp] theorem queueReport_rxdChar (b : ReportBody) (s : State) :
    (queueReport b s).rxdChar = s.rxdChar := rfl
@[simp] theorem queueReport_rate (b : ReportBody) (s : State) :
    (queueReport b s).rate = s.rate := rfl
@[simp] theorem queueReport_link (b : ReportBody) (s : State) :
    (queueReport b s).link = s.link := rfl
@[simp] theorem queueReport_silenceTimer (b : ReportBody) (s : State) :
    (queueReport b s).silenceTimer = s.silenceTimer := rfl
@[simp] theorem queueReport_silenceCode (b : ReportBody) (s : State) :
    (queueReport b s).silenceCode = s.silenceCode := rfl
@[simp] theorem queueReport_ac (b : ReportBody) (s : State) : (queueReport b s).ac = s.ac := rfl
@[simp] theorem queueReport_stream (b : ReportBody) (s : State) :
    (queueReport b s).stream = s.stream := rfl
@[simp] theorem queueReport_free (b : ReportBody) (s : State) :
    (queueReport b s).free = s.free := rfl
@[simp] theorem queueReport_poolReserve (b : ReportBody) (s : State) :
    (queueReport b s).poolReserve = s.poolReserve := rfl
@[simp] theorem queueReport_poolLow (b : ReportBody) (s : State) :
    (queueReport b s).poolLow = s.poolLow := rfl
@[simp] theorem queueReport_ports (b : ReportBody) (s : State) :
    (queueReport b s).ports = s.ports := rfl
@[simp] theorem queueReport_fences (b : ReportBody) (s : State) :
    (queueReport b s).fences = s.fences := rfl
@[simp] theorem queueReport_bus (b : ReportBody) (s : State) : (queueReport b s).bus = s.bus := rfl
@[simp] theorem queueReport_tribRx (b : ReportBody) (s : State) :
    (queueReport b s).tribRx = s.tribRx := rfl
@[simp] theorem queueReport_urgentPtr (b : ReportBody) (s : State) :
    (queueReport b s).urgentPtr = s.urgentPtr := rfl
@[simp] theorem queueReport_normalPtr (b : ReportBody) (s : State) :
    (queueReport b s).normalPtr = s.normalPtr := rfl
@[simp] theorem queueReport_attn (b : ReportBody) (s : State) :
    (queueReport b s).attn = s.attn := rfl
@[simp] theorem queueReport_scan (b : ReportBody) (s : State) :
    (queueReport b s).scan = s.scan := rfl
@[simp] theorem queueReport_nextIndex (b : ReportBody) (s : State) :
    (queueReport b s).nextIndex = s.nextIndex := rfl
@[simp] theorem queueReport_alternation (b : ReportBody) (s : State) :
    (queueReport b s).alternation = s.alternation := rfl
@[simp] theorem queueReport_scanEnable (b : ReportBody) (s : State) :
    (queueReport b s).scanEnable = s.scanEnable := rfl
@[simp] theorem queueReport_reservations (b : ReportBody) (s : State) :
    (queueReport b s).reservations = s.reservations := rfl
@[simp] theorem queueReport_ring (b : ReportBody) (s : State) :
    (queueReport b s).ring = s.ring := rfl
@[simp] theorem queueReport_slot (b : ReportBody) (s : State) :
    (queueReport b s).slot = s.slot := rfl
@[simp] theorem queueReport_streamPending (b : ReportBody) (s : State) :
    (queueReport b s).streamPending = s.streamPending := rfl
@[simp] theorem queueReport_flowPending (b : ReportBody) (s : State) :
    (queueReport b s).flowPending = s.flowPending := rfl
@[simp] theorem queueReport_progressPending (b : ReportBody) (s : State) :
    (queueReport b s).progressPending = s.progressPending := rfl
@[simp] theorem queueReport_line (b : ReportBody) (s : State) :
    (queueReport b s).line = s.line := rfl
@[simp] theorem queueReport_turn (b : ReportBody) (s : State) :
    (queueReport b s).turn = s.turn := rfl
@[simp] theorem queueReport_tallies (b : ReportBody) (s : State) :
    (queueReport b s).tallies = s.tallies := rfl
@[simp] theorem queueReport_resetHeld (b : ReportBody) (s : State) :
    (queueReport b s).resetHeld = s.resetHeld := rfl
@[simp] theorem queueReport_decisionDue (b : ReportBody) (s : State) :
    (queueReport b s).decisionDue = s.decisionDue := rfl
@[simp] theorem queueReport_pending (b : ReportBody) (s : State) :
    (queueReport b s).pending = s.pending := rfl

/-! ### useReservation -/

@[simp] theorem useReservation_rx (b : ReportBody) (s : State) :
    (useReservation b s).rx = s.rx := rfl
@[simp] theorem useReservation_rxdLevel (b : ReportBody) (s : State) :
    (useReservation b s).rxdLevel = s.rxdLevel := rfl
@[simp] theorem useReservation_rxdChar (b : ReportBody) (s : State) :
    (useReservation b s).rxdChar = s.rxdChar := rfl
@[simp] theorem useReservation_rate (b : ReportBody) (s : State) :
    (useReservation b s).rate = s.rate := rfl
@[simp] theorem useReservation_link (b : ReportBody) (s : State) :
    (useReservation b s).link = s.link := rfl
@[simp] theorem useReservation_silenceTimer (b : ReportBody) (s : State) :
    (useReservation b s).silenceTimer = s.silenceTimer := rfl
@[simp] theorem useReservation_silenceCode (b : ReportBody) (s : State) :
    (useReservation b s).silenceCode = s.silenceCode := rfl
@[simp] theorem useReservation_ac (b : ReportBody) (s : State) :
    (useReservation b s).ac = s.ac := rfl
@[simp] theorem useReservation_stream (b : ReportBody) (s : State) :
    (useReservation b s).stream = s.stream := rfl
@[simp] theorem useReservation_free (b : ReportBody) (s : State) :
    (useReservation b s).free = s.free := rfl
@[simp] theorem useReservation_poolReserve (b : ReportBody) (s : State) :
    (useReservation b s).poolReserve = s.poolReserve := rfl
@[simp] theorem useReservation_poolLow (b : ReportBody) (s : State) :
    (useReservation b s).poolLow = s.poolLow := rfl
@[simp] theorem useReservation_ports (b : ReportBody) (s : State) :
    (useReservation b s).ports = s.ports := rfl
@[simp] theorem useReservation_fences (b : ReportBody) (s : State) :
    (useReservation b s).fences = s.fences := rfl
@[simp] theorem useReservation_bus (b : ReportBody) (s : State) :
    (useReservation b s).bus = s.bus := rfl
@[simp] theorem useReservation_tribRx (b : ReportBody) (s : State) :
    (useReservation b s).tribRx = s.tribRx := rfl
@[simp] theorem useReservation_urgentPtr (b : ReportBody) (s : State) :
    (useReservation b s).urgentPtr = s.urgentPtr := rfl
@[simp] theorem useReservation_normalPtr (b : ReportBody) (s : State) :
    (useReservation b s).normalPtr = s.normalPtr := rfl
@[simp] theorem useReservation_attn (b : ReportBody) (s : State) :
    (useReservation b s).attn = s.attn := rfl
@[simp] theorem useReservation_scan (b : ReportBody) (s : State) :
    (useReservation b s).scan = s.scan := rfl
@[simp] theorem useReservation_nextIndex (b : ReportBody) (s : State) :
    (useReservation b s).nextIndex = s.nextIndex := rfl
@[simp] theorem useReservation_alternation (b : ReportBody) (s : State) :
    (useReservation b s).alternation = s.alternation := rfl
@[simp] theorem useReservation_scanEnable (b : ReportBody) (s : State) :
    (useReservation b s).scanEnable = s.scanEnable := rfl
@[simp] theorem useReservation_ring (b : ReportBody) (s : State) :
    (useReservation b s).ring = s.ring := rfl
@[simp] theorem useReservation_slot (b : ReportBody) (s : State) :
    (useReservation b s).slot = s.slot := rfl
@[simp] theorem useReservation_streamPending (b : ReportBody) (s : State) :
    (useReservation b s).streamPending = s.streamPending := rfl
@[simp] theorem useReservation_flowPending (b : ReportBody) (s : State) :
    (useReservation b s).flowPending = s.flowPending := rfl
@[simp] theorem useReservation_progressPending (b : ReportBody) (s : State) :
    (useReservation b s).progressPending = s.progressPending := rfl
@[simp] theorem useReservation_line (b : ReportBody) (s : State) :
    (useReservation b s).line = s.line := rfl
@[simp] theorem useReservation_turn (b : ReportBody) (s : State) :
    (useReservation b s).turn = s.turn := rfl
@[simp] theorem useReservation_tallies (b : ReportBody) (s : State) :
    (useReservation b s).tallies = s.tallies := rfl
@[simp] theorem useReservation_resetHeld (b : ReportBody) (s : State) :
    (useReservation b s).resetHeld = s.resetHeld := rfl
@[simp] theorem useReservation_decisionDue (b : ReportBody) (s : State) :
    (useReservation b s).decisionDue = s.decisionDue := rfl
@[simp] theorem useReservation_pending (b : ReportBody) (s : State) :
    (useReservation b s).pending = s.pending := rfl

/-! ### enterHold -/

@[simp] theorem enterHold_rx (c : HoldCause) (s : State) : (enterHold c s).rx = s.rx := rfl
@[simp] theorem enterHold_rxdLevel (c : HoldCause) (s : State) :
    (enterHold c s).rxdLevel = s.rxdLevel := rfl
@[simp] theorem enterHold_rxdChar (c : HoldCause) (s : State) :
    (enterHold c s).rxdChar = s.rxdChar := rfl
@[simp] theorem enterHold_rate (c : HoldCause) (s : State) : (enterHold c s).rate = s.rate := rfl
@[simp] theorem enterHold_link (c : HoldCause) (s : State) : (enterHold c s).link = s.link := rfl
@[simp] theorem enterHold_silenceTimer (c : HoldCause) (s : State) :
    (enterHold c s).silenceTimer = s.silenceTimer := rfl
@[simp] theorem enterHold_silenceCode (c : HoldCause) (s : State) :
    (enterHold c s).silenceCode = s.silenceCode := rfl
@[simp] theorem enterHold_ac (c : HoldCause) (s : State) : (enterHold c s).ac = s.ac := rfl
@[simp] theorem enterHold_free (c : HoldCause) (s : State) : (enterHold c s).free = s.free := rfl
@[simp] theorem enterHold_poolReserve (c : HoldCause) (s : State) :
    (enterHold c s).poolReserve = s.poolReserve := rfl
@[simp] theorem enterHold_poolLow (c : HoldCause) (s : State) :
    (enterHold c s).poolLow = s.poolLow := rfl
@[simp] theorem enterHold_ports (c : HoldCause) (s : State) : (enterHold c s).ports = s.ports := rfl
@[simp] theorem enterHold_fences (c : HoldCause) (s : State) :
    (enterHold c s).fences = s.fences := rfl
@[simp] theorem enterHold_bus (c : HoldCause) (s : State) : (enterHold c s).bus = s.bus := rfl
@[simp] theorem enterHold_tribRx (c : HoldCause) (s : State) :
    (enterHold c s).tribRx = s.tribRx := rfl
@[simp] theorem enterHold_urgentPtr (c : HoldCause) (s : State) :
    (enterHold c s).urgentPtr = s.urgentPtr := rfl
@[simp] theorem enterHold_normalPtr (c : HoldCause) (s : State) :
    (enterHold c s).normalPtr = s.normalPtr := rfl
@[simp] theorem enterHold_attn (c : HoldCause) (s : State) : (enterHold c s).attn = s.attn := rfl
@[simp] theorem enterHold_scan (c : HoldCause) (s : State) : (enterHold c s).scan = s.scan := rfl
@[simp] theorem enterHold_nextIndex (c : HoldCause) (s : State) :
    (enterHold c s).nextIndex = s.nextIndex := rfl
@[simp] theorem enterHold_alternation (c : HoldCause) (s : State) :
    (enterHold c s).alternation = s.alternation := rfl
@[simp] theorem enterHold_scanEnable (c : HoldCause) (s : State) :
    (enterHold c s).scanEnable = s.scanEnable := rfl
@[simp] theorem enterHold_reports (c : HoldCause) (s : State) :
    (enterHold c s).reports = s.reports := rfl
@[simp] theorem enterHold_reservations (c : HoldCause) (s : State) :
    (enterHold c s).reservations = s.reservations := rfl
@[simp] theorem enterHold_nextRC (c : HoldCause) (s : State) :
    (enterHold c s).nextRC = s.nextRC := rfl
@[simp] theorem enterHold_ring (c : HoldCause) (s : State) : (enterHold c s).ring = s.ring := rfl
@[simp] theorem enterHold_slot (c : HoldCause) (s : State) : (enterHold c s).slot = s.slot := rfl
@[simp] theorem enterHold_flowPending (c : HoldCause) (s : State) :
    (enterHold c s).flowPending = s.flowPending := rfl
@[simp] theorem enterHold_progressPending (c : HoldCause) (s : State) :
    (enterHold c s).progressPending = s.progressPending := rfl
@[simp] theorem enterHold_line (c : HoldCause) (s : State) : (enterHold c s).line = s.line := rfl
@[simp] theorem enterHold_turn (c : HoldCause) (s : State) : (enterHold c s).turn = s.turn := rfl
@[simp] theorem enterHold_resetHeld (c : HoldCause) (s : State) :
    (enterHold c s).resetHeld = s.resetHeld := rfl
@[simp] theorem enterHold_decisionDue (c : HoldCause) (s : State) :
    (enterHold c s).decisionDue = s.decisionDue := rfl
@[simp] theorem enterHold_pending (c : HoldCause) (s : State) :
    (enterHold c s).pending = s.pending := rfl

/-! ### frameReceived -/

@[simp] theorem frameReceived_rxdLevel (s : State) : (frameReceived s).rxdLevel = s.rxdLevel := rfl
@[simp] theorem frameReceived_rxdChar (s : State) : (frameReceived s).rxdChar = s.rxdChar := rfl
@[simp] theorem frameReceived_rate (s : State) : (frameReceived s).rate = s.rate := rfl
@[simp] theorem frameReceived_silenceCode (s : State) :
    (frameReceived s).silenceCode = s.silenceCode := rfl
@[simp] theorem frameReceived_ac (s : State) : (frameReceived s).ac = s.ac := rfl
@[simp] theorem frameReceived_stream (s : State) : (frameReceived s).stream = s.stream := rfl
@[simp] theorem frameReceived_free (s : State) : (frameReceived s).free = s.free := rfl
@[simp] theorem frameReceived_poolReserve (s : State) :
    (frameReceived s).poolReserve = s.poolReserve := rfl
@[simp] theorem frameReceived_poolLow (s : State) : (frameReceived s).poolLow = s.poolLow := rfl
@[simp] theorem frameReceived_ports (s : State) : (frameReceived s).ports = s.ports := rfl
@[simp] theorem frameReceived_fences (s : State) : (frameReceived s).fences = s.fences := rfl
@[simp] theorem frameReceived_bus (s : State) : (frameReceived s).bus = s.bus := rfl
@[simp] theorem frameReceived_tribRx (s : State) : (frameReceived s).tribRx = s.tribRx := rfl
@[simp] theorem frameReceived_urgentPtr (s : State) :
    (frameReceived s).urgentPtr = s.urgentPtr := rfl
@[simp] theorem frameReceived_normalPtr (s : State) :
    (frameReceived s).normalPtr = s.normalPtr := rfl
@[simp] theorem frameReceived_attn (s : State) : (frameReceived s).attn = s.attn := rfl
@[simp] theorem frameReceived_scan (s : State) : (frameReceived s).scan = s.scan := rfl
@[simp] theorem frameReceived_nextIndex (s : State) :
    (frameReceived s).nextIndex = s.nextIndex := rfl
@[simp] theorem frameReceived_alternation (s : State) :
    (frameReceived s).alternation = s.alternation := rfl
@[simp] theorem frameReceived_scanEnable (s : State) :
    (frameReceived s).scanEnable = s.scanEnable := rfl
@[simp] theorem frameReceived_reports (s : State) : (frameReceived s).reports = s.reports := rfl
@[simp] theorem frameReceived_reservations (s : State) :
    (frameReceived s).reservations = s.reservations := rfl
@[simp] theorem frameReceived_nextRC (s : State) : (frameReceived s).nextRC = s.nextRC := rfl
@[simp] theorem frameReceived_ring (s : State) : (frameReceived s).ring = s.ring := rfl
@[simp] theorem frameReceived_slot (s : State) : (frameReceived s).slot = s.slot := rfl
@[simp] theorem frameReceived_flowPending (s : State) :
    (frameReceived s).flowPending = s.flowPending := rfl
@[simp] theorem frameReceived_progressPending (s : State) :
    (frameReceived s).progressPending = s.progressPending := rfl
@[simp] theorem frameReceived_line (s : State) : (frameReceived s).line = s.line := rfl
@[simp] theorem frameReceived_turn (s : State) : (frameReceived s).turn = s.turn := rfl
@[simp] theorem frameReceived_tallies (s : State) : (frameReceived s).tallies = s.tallies := rfl
@[simp] theorem frameReceived_resetHeld (s : State) :
    (frameReceived s).resetHeld = s.resetHeld := rfl
@[simp] theorem frameReceived_decisionDue (s : State) :
    (frameReceived s).decisionDue = s.decisionDue := rfl
@[simp] theorem frameReceived_pending (s : State) : (frameReceived s).pending = s.pending := rfl

/-! ### advanceAC -/

@[simp] theorem advanceAC_rx (s : State) : (advanceAC s).rx = s.rx := rfl
@[simp] theorem advanceAC_rxdLevel (s : State) : (advanceAC s).rxdLevel = s.rxdLevel := rfl
@[simp] theorem advanceAC_rxdChar (s : State) : (advanceAC s).rxdChar = s.rxdChar := rfl
@[simp] theorem advanceAC_rate (s : State) : (advanceAC s).rate = s.rate := rfl
@[simp] theorem advanceAC_link (s : State) : (advanceAC s).link = s.link := rfl
@[simp] theorem advanceAC_silenceTimer (s : State) :
    (advanceAC s).silenceTimer = s.silenceTimer := rfl
@[simp] theorem advanceAC_silenceCode (s : State) : (advanceAC s).silenceCode = s.silenceCode := rfl
@[simp] theorem advanceAC_stream (s : State) : (advanceAC s).stream = s.stream := rfl
@[simp] theorem advanceAC_free (s : State) : (advanceAC s).free = s.free := rfl
@[simp] theorem advanceAC_poolReserve (s : State) : (advanceAC s).poolReserve = s.poolReserve := rfl
@[simp] theorem advanceAC_poolLow (s : State) : (advanceAC s).poolLow = s.poolLow := rfl
@[simp] theorem advanceAC_ports (s : State) : (advanceAC s).ports = s.ports := rfl
@[simp] theorem advanceAC_fences (s : State) : (advanceAC s).fences = s.fences := rfl
@[simp] theorem advanceAC_bus (s : State) : (advanceAC s).bus = s.bus := rfl
@[simp] theorem advanceAC_tribRx (s : State) : (advanceAC s).tribRx = s.tribRx := rfl
@[simp] theorem advanceAC_urgentPtr (s : State) : (advanceAC s).urgentPtr = s.urgentPtr := rfl
@[simp] theorem advanceAC_normalPtr (s : State) : (advanceAC s).normalPtr = s.normalPtr := rfl
@[simp] theorem advanceAC_attn (s : State) : (advanceAC s).attn = s.attn := rfl
@[simp] theorem advanceAC_scan (s : State) : (advanceAC s).scan = s.scan := rfl
@[simp] theorem advanceAC_nextIndex (s : State) : (advanceAC s).nextIndex = s.nextIndex := rfl
@[simp] theorem advanceAC_alternation (s : State) : (advanceAC s).alternation = s.alternation := rfl
@[simp] theorem advanceAC_scanEnable (s : State) : (advanceAC s).scanEnable = s.scanEnable := rfl
@[simp] theorem advanceAC_reports (s : State) : (advanceAC s).reports = s.reports := rfl
@[simp] theorem advanceAC_reservations (s : State) :
    (advanceAC s).reservations = s.reservations := rfl
@[simp] theorem advanceAC_nextRC (s : State) : (advanceAC s).nextRC = s.nextRC := rfl
@[simp] theorem advanceAC_ring (s : State) : (advanceAC s).ring = s.ring := rfl
@[simp] theorem advanceAC_slot (s : State) : (advanceAC s).slot = s.slot := rfl
@[simp] theorem advanceAC_streamPending (s : State) :
    (advanceAC s).streamPending = s.streamPending := rfl
@[simp] theorem advanceAC_flowPending (s : State) : (advanceAC s).flowPending = s.flowPending := rfl
@[simp] theorem advanceAC_progressPending (s : State) :
    (advanceAC s).progressPending = s.progressPending := rfl
@[simp] theorem advanceAC_line (s : State) : (advanceAC s).line = s.line := rfl
@[simp] theorem advanceAC_turn (s : State) : (advanceAC s).turn = s.turn := rfl
@[simp] theorem advanceAC_tallies (s : State) : (advanceAC s).tallies = s.tallies := rfl
@[simp] theorem advanceAC_resetHeld (s : State) : (advanceAC s).resetHeld = s.resetHeld := rfl
@[simp] theorem advanceAC_decisionDue (s : State) : (advanceAC s).decisionDue = s.decisionDue := rfl
@[simp] theorem advanceAC_pending (s : State) : (advanceAC s).pending = s.pending := rfl

/-! ### dropTransaction -/

@[simp] theorem dropTransaction_rx (s : State) : (dropTransaction s).rx = s.rx := rfl
@[simp] theorem dropTransaction_rxdLevel (s : State) :
    (dropTransaction s).rxdLevel = s.rxdLevel := rfl
@[simp] theorem dropTransaction_rxdChar (s : State) : (dropTransaction s).rxdChar = s.rxdChar := rfl
@[simp] theorem dropTransaction_rate (s : State) : (dropTransaction s).rate = s.rate := rfl
@[simp] theorem dropTransaction_link (s : State) : (dropTransaction s).link = s.link := rfl
@[simp] theorem dropTransaction_silenceTimer (s : State) :
    (dropTransaction s).silenceTimer = s.silenceTimer := rfl
@[simp] theorem dropTransaction_silenceCode (s : State) :
    (dropTransaction s).silenceCode = s.silenceCode := rfl
@[simp] theorem dropTransaction_ac (s : State) : (dropTransaction s).ac = s.ac := rfl
@[simp] theorem dropTransaction_stream (s : State) : (dropTransaction s).stream = s.stream := rfl
@[simp] theorem dropTransaction_free (s : State) : (dropTransaction s).free = s.free := rfl
@[simp] theorem dropTransaction_poolReserve (s : State) :
    (dropTransaction s).poolReserve = s.poolReserve := rfl
@[simp] theorem dropTransaction_poolLow (s : State) : (dropTransaction s).poolLow = s.poolLow := rfl
@[simp] theorem dropTransaction_ports (s : State) : (dropTransaction s).ports = s.ports := rfl
@[simp] theorem dropTransaction_fences (s : State) : (dropTransaction s).fences = s.fences := rfl
@[simp] theorem dropTransaction_tribRx (s : State) : (dropTransaction s).tribRx = s.tribRx := rfl
@[simp] theorem dropTransaction_urgentPtr (s : State) :
    (dropTransaction s).urgentPtr = s.urgentPtr := rfl
@[simp] theorem dropTransaction_normalPtr (s : State) :
    (dropTransaction s).normalPtr = s.normalPtr := rfl
@[simp] theorem dropTransaction_attn (s : State) : (dropTransaction s).attn = s.attn := rfl
@[simp] theorem dropTransaction_scan (s : State) : (dropTransaction s).scan = s.scan := rfl
@[simp] theorem dropTransaction_nextIndex (s : State) :
    (dropTransaction s).nextIndex = s.nextIndex := rfl
@[simp] theorem dropTransaction_alternation (s : State) :
    (dropTransaction s).alternation = s.alternation := rfl
@[simp] theorem dropTransaction_scanEnable (s : State) :
    (dropTransaction s).scanEnable = s.scanEnable := rfl
@[simp] theorem dropTransaction_reports (s : State) : (dropTransaction s).reports = s.reports := rfl
@[simp] theorem dropTransaction_reservations (s : State) :
    (dropTransaction s).reservations = s.reservations := rfl
@[simp] theorem dropTransaction_nextRC (s : State) : (dropTransaction s).nextRC = s.nextRC := rfl
@[simp] theorem dropTransaction_ring (s : State) : (dropTransaction s).ring = s.ring := rfl
@[simp] theorem dropTransaction_slot (s : State) : (dropTransaction s).slot = s.slot := rfl
@[simp] theorem dropTransaction_streamPending (s : State) :
    (dropTransaction s).streamPending = s.streamPending := rfl
@[simp] theorem dropTransaction_flowPending (s : State) :
    (dropTransaction s).flowPending = s.flowPending := rfl
@[simp] theorem dropTransaction_progressPending (s : State) :
    (dropTransaction s).progressPending = s.progressPending := rfl
@[simp] theorem dropTransaction_line (s : State) : (dropTransaction s).line = s.line := rfl
@[simp] theorem dropTransaction_turn (s : State) : (dropTransaction s).turn = s.turn := rfl
@[simp] theorem dropTransaction_tallies (s : State) : (dropTransaction s).tallies = s.tallies := rfl
@[simp] theorem dropTransaction_resetHeld (s : State) :
    (dropTransaction s).resetHeld = s.resetHeld := rfl
@[simp] theorem dropTransaction_pending (s : State) : (dropTransaction s).pending = s.pending := rfl

/-! ### startSending -/

@[simp] theorem startSending_rx (k : TxnKind) (p : PortNo) (s : State) :
    (startSending k p s).rx = s.rx := rfl
@[simp] theorem startSending_rxdLevel (k : TxnKind) (p : PortNo) (s : State) :
    (startSending k p s).rxdLevel = s.rxdLevel := rfl
@[simp] theorem startSending_rxdChar (k : TxnKind) (p : PortNo) (s : State) :
    (startSending k p s).rxdChar = s.rxdChar := rfl
@[simp] theorem startSending_rate (k : TxnKind) (p : PortNo) (s : State) :
    (startSending k p s).rate = s.rate := rfl
@[simp] theorem startSending_link (k : TxnKind) (p : PortNo) (s : State) :
    (startSending k p s).link = s.link := rfl
@[simp] theorem startSending_silenceTimer (k : TxnKind) (p : PortNo) (s : State) :
    (startSending k p s).silenceTimer = s.silenceTimer := rfl
@[simp] theorem startSending_silenceCode (k : TxnKind) (p : PortNo) (s : State) :
    (startSending k p s).silenceCode = s.silenceCode := rfl
@[simp] theorem startSending_ac (k : TxnKind) (p : PortNo) (s : State) :
    (startSending k p s).ac = s.ac := rfl
@[simp] theorem startSending_stream (k : TxnKind) (p : PortNo) (s : State) :
    (startSending k p s).stream = s.stream := rfl
@[simp] theorem startSending_free (k : TxnKind) (p : PortNo) (s : State) :
    (startSending k p s).free = s.free := rfl
@[simp] theorem startSending_poolReserve (k : TxnKind) (p : PortNo) (s : State) :
    (startSending k p s).poolReserve = s.poolReserve := rfl
@[simp] theorem startSending_poolLow (k : TxnKind) (p : PortNo) (s : State) :
    (startSending k p s).poolLow = s.poolLow := rfl
@[simp] theorem startSending_ports (k : TxnKind) (p : PortNo) (s : State) :
    (startSending k p s).ports = s.ports := rfl
@[simp] theorem startSending_fences (k : TxnKind) (p : PortNo) (s : State) :
    (startSending k p s).fences = s.fences := rfl
@[simp] theorem startSending_urgentPtr (k : TxnKind) (p : PortNo) (s : State) :
    (startSending k p s).urgentPtr = s.urgentPtr := rfl
@[simp] theorem startSending_normalPtr (k : TxnKind) (p : PortNo) (s : State) :
    (startSending k p s).normalPtr = s.normalPtr := rfl
@[simp] theorem startSending_attn (k : TxnKind) (p : PortNo) (s : State) :
    (startSending k p s).attn = s.attn := rfl
@[simp] theorem startSending_scan (k : TxnKind) (p : PortNo) (s : State) :
    (startSending k p s).scan = s.scan := rfl
@[simp] theorem startSending_nextIndex (k : TxnKind) (p : PortNo) (s : State) :
    (startSending k p s).nextIndex = s.nextIndex := rfl
@[simp] theorem startSending_alternation (k : TxnKind) (p : PortNo) (s : State) :
    (startSending k p s).alternation = s.alternation := rfl
@[simp] theorem startSending_scanEnable (k : TxnKind) (p : PortNo) (s : State) :
    (startSending k p s).scanEnable = s.scanEnable := rfl
@[simp] theorem startSending_reports (k : TxnKind) (p : PortNo) (s : State) :
    (startSending k p s).reports = s.reports := rfl
@[simp] theorem startSending_reservations (k : TxnKind) (p : PortNo) (s : State) :
    (startSending k p s).reservations = s.reservations := rfl
@[simp] theorem startSending_nextRC (k : TxnKind) (p : PortNo) (s : State) :
    (startSending k p s).nextRC = s.nextRC := rfl
@[simp] theorem startSending_ring (k : TxnKind) (p : PortNo) (s : State) :
    (startSending k p s).ring = s.ring := rfl
@[simp] theorem startSending_slot (k : TxnKind) (p : PortNo) (s : State) :
    (startSending k p s).slot = s.slot := rfl
@[simp] theorem startSending_streamPending (k : TxnKind) (p : PortNo) (s : State) :
    (startSending k p s).streamPending = s.streamPending := rfl
@[simp] theorem startSending_flowPending (k : TxnKind) (p : PortNo) (s : State) :
    (startSending k p s).flowPending = s.flowPending := rfl
@[simp] theorem startSending_progressPending (k : TxnKind) (p : PortNo) (s : State) :
    (startSending k p s).progressPending = s.progressPending := rfl
@[simp] theorem startSending_line (k : TxnKind) (p : PortNo) (s : State) :
    (startSending k p s).line = s.line := rfl
@[simp] theorem startSending_turn (k : TxnKind) (p : PortNo) (s : State) :
    (startSending k p s).turn = s.turn := rfl
@[simp] theorem startSending_tallies (k : TxnKind) (p : PortNo) (s : State) :
    (startSending k p s).tallies = s.tallies := rfl
@[simp] theorem startSending_resetHeld (k : TxnKind) (p : PortNo) (s : State) :
    (startSending k p s).resetHeld = s.resetHeld := rfl
@[simp] theorem startSending_decisionDue (k : TxnKind) (p : PortNo) (s : State) :
    (startSending k p s).decisionDue = s.decisionDue := rfl
@[simp] theorem startSending_pending (k : TxnKind) (p : PortNo) (s : State) :
    (startSending k p s).pending = s.pending := rfl

/-! ### stopScan -/

@[simp] theorem stopScan_rx (flag : Bool) (s : State) : (stopScan flag s).rx = s.rx := rfl
@[simp] theorem stopScan_rxdLevel (flag : Bool) (s : State) :
    (stopScan flag s).rxdLevel = s.rxdLevel := rfl
@[simp] theorem stopScan_rxdChar (flag : Bool) (s : State) :
    (stopScan flag s).rxdChar = s.rxdChar := rfl
@[simp] theorem stopScan_rate (flag : Bool) (s : State) : (stopScan flag s).rate = s.rate := rfl
@[simp] theorem stopScan_link (flag : Bool) (s : State) : (stopScan flag s).link = s.link := rfl
@[simp] theorem stopScan_silenceTimer (flag : Bool) (s : State) :
    (stopScan flag s).silenceTimer = s.silenceTimer := rfl
@[simp] theorem stopScan_silenceCode (flag : Bool) (s : State) :
    (stopScan flag s).silenceCode = s.silenceCode := rfl
@[simp] theorem stopScan_ac (flag : Bool) (s : State) : (stopScan flag s).ac = s.ac := rfl
@[simp] theorem stopScan_stream (flag : Bool) (s : State) :
    (stopScan flag s).stream = s.stream := rfl
@[simp] theorem stopScan_free (flag : Bool) (s : State) : (stopScan flag s).free = s.free := rfl
@[simp] theorem stopScan_poolReserve (flag : Bool) (s : State) :
    (stopScan flag s).poolReserve = s.poolReserve := rfl
@[simp] theorem stopScan_poolLow (flag : Bool) (s : State) :
    (stopScan flag s).poolLow = s.poolLow := rfl
@[simp] theorem stopScan_ports (flag : Bool) (s : State) : (stopScan flag s).ports = s.ports := rfl
@[simp] theorem stopScan_fences (flag : Bool) (s : State) :
    (stopScan flag s).fences = s.fences := rfl
@[simp] theorem stopScan_bus (flag : Bool) (s : State) : (stopScan flag s).bus = s.bus := rfl
@[simp] theorem stopScan_tribRx (flag : Bool) (s : State) :
    (stopScan flag s).tribRx = s.tribRx := rfl
@[simp] theorem stopScan_urgentPtr (flag : Bool) (s : State) :
    (stopScan flag s).urgentPtr = s.urgentPtr := rfl
@[simp] theorem stopScan_normalPtr (flag : Bool) (s : State) :
    (stopScan flag s).normalPtr = s.normalPtr := rfl
@[simp] theorem stopScan_attn (flag : Bool) (s : State) : (stopScan flag s).attn = s.attn := rfl
@[simp] theorem stopScan_scanEnable (flag : Bool) (s : State) :
    (stopScan flag s).scanEnable = s.scanEnable := rfl
@[simp] theorem stopScan_reports (flag : Bool) (s : State) :
    (stopScan flag s).reports = s.reports := rfl
@[simp] theorem stopScan_reservations (flag : Bool) (s : State) :
    (stopScan flag s).reservations = s.reservations := rfl
@[simp] theorem stopScan_nextRC (flag : Bool) (s : State) :
    (stopScan flag s).nextRC = s.nextRC := rfl
@[simp] theorem stopScan_ring (flag : Bool) (s : State) : (stopScan flag s).ring = s.ring := rfl
@[simp] theorem stopScan_slot (flag : Bool) (s : State) : (stopScan flag s).slot = s.slot := rfl
@[simp] theorem stopScan_streamPending (flag : Bool) (s : State) :
    (stopScan flag s).streamPending = s.streamPending := rfl
@[simp] theorem stopScan_flowPending (flag : Bool) (s : State) :
    (stopScan flag s).flowPending = s.flowPending := rfl
@[simp] theorem stopScan_progressPending (flag : Bool) (s : State) :
    (stopScan flag s).progressPending = s.progressPending := rfl
@[simp] theorem stopScan_line (flag : Bool) (s : State) : (stopScan flag s).line = s.line := rfl
@[simp] theorem stopScan_turn (flag : Bool) (s : State) : (stopScan flag s).turn = s.turn := rfl
@[simp] theorem stopScan_tallies (flag : Bool) (s : State) :
    (stopScan flag s).tallies = s.tallies := rfl
@[simp] theorem stopScan_resetHeld (flag : Bool) (s : State) :
    (stopScan flag s).resetHeld = s.resetHeld := rfl
@[simp] theorem stopScan_decisionDue (flag : Bool) (s : State) :
    (stopScan flag s).decisionDue = s.decisionDue := rfl
@[simp] theorem stopScan_pending (flag : Bool) (s : State) :
    (stopScan flag s).pending = s.pending := rfl

/-! ### placeAnswer -/

@[simp] theorem placeAnswer_rx (a : Answer) (s : State) : (placeAnswer a s).rx = s.rx := rfl
@[simp] theorem placeAnswer_rxdLevel (a : Answer) (s : State) :
    (placeAnswer a s).rxdLevel = s.rxdLevel := rfl
@[simp] theorem placeAnswer_rxdChar (a : Answer) (s : State) :
    (placeAnswer a s).rxdChar = s.rxdChar := rfl
@[simp] theorem placeAnswer_rate (a : Answer) (s : State) : (placeAnswer a s).rate = s.rate := rfl
@[simp] theorem placeAnswer_link (a : Answer) (s : State) : (placeAnswer a s).link = s.link := rfl
@[simp] theorem placeAnswer_silenceTimer (a : Answer) (s : State) :
    (placeAnswer a s).silenceTimer = s.silenceTimer := rfl
@[simp] theorem placeAnswer_silenceCode (a : Answer) (s : State) :
    (placeAnswer a s).silenceCode = s.silenceCode := rfl
@[simp] theorem placeAnswer_ac (a : Answer) (s : State) : (placeAnswer a s).ac = s.ac := rfl
@[simp] theorem placeAnswer_stream (a : Answer) (s : State) :
    (placeAnswer a s).stream = s.stream := rfl
@[simp] theorem placeAnswer_free (a : Answer) (s : State) : (placeAnswer a s).free = s.free := rfl
@[simp] theorem placeAnswer_poolReserve (a : Answer) (s : State) :
    (placeAnswer a s).poolReserve = s.poolReserve := rfl
@[simp] theorem placeAnswer_poolLow (a : Answer) (s : State) :
    (placeAnswer a s).poolLow = s.poolLow := rfl
@[simp] theorem placeAnswer_ports (a : Answer) (s : State) :
    (placeAnswer a s).ports = s.ports := rfl
@[simp] theorem placeAnswer_fences (a : Answer) (s : State) :
    (placeAnswer a s).fences = s.fences := rfl
@[simp] theorem placeAnswer_bus (a : Answer) (s : State) : (placeAnswer a s).bus = s.bus := rfl
@[simp] theorem placeAnswer_tribRx (a : Answer) (s : State) :
    (placeAnswer a s).tribRx = s.tribRx := rfl
@[simp] theorem placeAnswer_urgentPtr (a : Answer) (s : State) :
    (placeAnswer a s).urgentPtr = s.urgentPtr := rfl
@[simp] theorem placeAnswer_normalPtr (a : Answer) (s : State) :
    (placeAnswer a s).normalPtr = s.normalPtr := rfl
@[simp] theorem placeAnswer_attn (a : Answer) (s : State) : (placeAnswer a s).attn = s.attn := rfl
@[simp] theorem placeAnswer_scan (a : Answer) (s : State) : (placeAnswer a s).scan = s.scan := rfl
@[simp] theorem placeAnswer_nextIndex (a : Answer) (s : State) :
    (placeAnswer a s).nextIndex = s.nextIndex := rfl
@[simp] theorem placeAnswer_alternation (a : Answer) (s : State) :
    (placeAnswer a s).alternation = s.alternation := rfl
@[simp] theorem placeAnswer_scanEnable (a : Answer) (s : State) :
    (placeAnswer a s).scanEnable = s.scanEnable := rfl
@[simp] theorem placeAnswer_reports (a : Answer) (s : State) :
    (placeAnswer a s).reports = s.reports := rfl
@[simp] theorem placeAnswer_reservations (a : Answer) (s : State) :
    (placeAnswer a s).reservations = s.reservations := rfl
@[simp] theorem placeAnswer_nextRC (a : Answer) (s : State) :
    (placeAnswer a s).nextRC = s.nextRC := rfl
@[simp] theorem placeAnswer_ring (a : Answer) (s : State) : (placeAnswer a s).ring = s.ring := rfl
@[simp] theorem placeAnswer_streamPending (a : Answer) (s : State) :
    (placeAnswer a s).streamPending = s.streamPending := rfl
@[simp] theorem placeAnswer_flowPending (a : Answer) (s : State) :
    (placeAnswer a s).flowPending = s.flowPending := rfl
@[simp] theorem placeAnswer_progressPending (a : Answer) (s : State) :
    (placeAnswer a s).progressPending = s.progressPending := rfl
@[simp] theorem placeAnswer_line (a : Answer) (s : State) : (placeAnswer a s).line = s.line := rfl
@[simp] theorem placeAnswer_turn (a : Answer) (s : State) : (placeAnswer a s).turn = s.turn := rfl
@[simp] theorem placeAnswer_tallies (a : Answer) (s : State) :
    (placeAnswer a s).tallies = s.tallies := rfl
@[simp] theorem placeAnswer_resetHeld (a : Answer) (s : State) :
    (placeAnswer a s).resetHeld = s.resetHeld := rfl
@[simp] theorem placeAnswer_decisionDue (a : Answer) (s : State) :
    (placeAnswer a s).decisionDue = s.decisionDue := rfl
@[simp] theorem placeAnswer_pending (a : Answer) (s : State) :
    (placeAnswer a s).pending = s.pending := rfl

/-! ### huntUplink -/

@[simp] theorem huntUplink_rxdLevel (s : State) : (huntUplink s).rxdLevel = s.rxdLevel := rfl
@[simp] theorem huntUplink_rxdChar (s : State) : (huntUplink s).rxdChar = s.rxdChar := rfl
@[simp] theorem huntUplink_rate (s : State) : (huntUplink s).rate = s.rate := rfl
@[simp] theorem huntUplink_link (s : State) : (huntUplink s).link = s.link := rfl
@[simp] theorem huntUplink_silenceTimer (s : State) :
    (huntUplink s).silenceTimer = s.silenceTimer := rfl
@[simp] theorem huntUplink_silenceCode (s : State) :
    (huntUplink s).silenceCode = s.silenceCode := rfl
@[simp] theorem huntUplink_ac (s : State) : (huntUplink s).ac = s.ac := rfl
@[simp] theorem huntUplink_stream (s : State) : (huntUplink s).stream = s.stream := rfl
@[simp] theorem huntUplink_free (s : State) : (huntUplink s).free = s.free := rfl
@[simp] theorem huntUplink_poolReserve (s : State) :
    (huntUplink s).poolReserve = s.poolReserve := rfl
@[simp] theorem huntUplink_poolLow (s : State) : (huntUplink s).poolLow = s.poolLow := rfl
@[simp] theorem huntUplink_ports (s : State) : (huntUplink s).ports = s.ports := rfl
@[simp] theorem huntUplink_fences (s : State) : (huntUplink s).fences = s.fences := rfl
@[simp] theorem huntUplink_bus (s : State) : (huntUplink s).bus = s.bus := rfl
@[simp] theorem huntUplink_tribRx (s : State) : (huntUplink s).tribRx = s.tribRx := rfl
@[simp] theorem huntUplink_urgentPtr (s : State) : (huntUplink s).urgentPtr = s.urgentPtr := rfl
@[simp] theorem huntUplink_normalPtr (s : State) : (huntUplink s).normalPtr = s.normalPtr := rfl
@[simp] theorem huntUplink_attn (s : State) : (huntUplink s).attn = s.attn := rfl
@[simp] theorem huntUplink_scan (s : State) : (huntUplink s).scan = s.scan := rfl
@[simp] theorem huntUplink_nextIndex (s : State) : (huntUplink s).nextIndex = s.nextIndex := rfl
@[simp] theorem huntUplink_alternation (s : State) :
    (huntUplink s).alternation = s.alternation := rfl
@[simp] theorem huntUplink_scanEnable (s : State) : (huntUplink s).scanEnable = s.scanEnable := rfl
@[simp] theorem huntUplink_reports (s : State) : (huntUplink s).reports = s.reports := rfl
@[simp] theorem huntUplink_reservations (s : State) :
    (huntUplink s).reservations = s.reservations := rfl
@[simp] theorem huntUplink_nextRC (s : State) : (huntUplink s).nextRC = s.nextRC := rfl
@[simp] theorem huntUplink_ring (s : State) : (huntUplink s).ring = s.ring := rfl
@[simp] theorem huntUplink_slot (s : State) : (huntUplink s).slot = s.slot := rfl
@[simp] theorem huntUplink_streamPending (s : State) :
    (huntUplink s).streamPending = s.streamPending := rfl
@[simp] theorem huntUplink_flowPending (s : State) :
    (huntUplink s).flowPending = s.flowPending := rfl
@[simp] theorem huntUplink_progressPending (s : State) :
    (huntUplink s).progressPending = s.progressPending := rfl
@[simp] theorem huntUplink_line (s : State) : (huntUplink s).line = s.line := rfl
@[simp] theorem huntUplink_turn (s : State) : (huntUplink s).turn = s.turn := rfl
@[simp] theorem huntUplink_tallies (s : State) : (huntUplink s).tallies = s.tallies := rfl
@[simp] theorem huntUplink_resetHeld (s : State) : (huntUplink s).resetHeld = s.resetHeld := rfl
@[simp] theorem huntUplink_decisionDue (s : State) :
    (huntUplink s).decisionDue = s.decisionDue := rfl
@[simp] theorem huntUplink_pending (s : State) : (huntUplink s).pending = s.pending := rfl

/-! ### huntTrib -/

@[simp] theorem huntTrib_rx (s : State) : (huntTrib s).rx = s.rx := rfl
@[simp] theorem huntTrib_rxdLevel (s : State) : (huntTrib s).rxdLevel = s.rxdLevel := rfl
@[simp] theorem huntTrib_rxdChar (s : State) : (huntTrib s).rxdChar = s.rxdChar := rfl
@[simp] theorem huntTrib_rate (s : State) : (huntTrib s).rate = s.rate := rfl
@[simp] theorem huntTrib_link (s : State) : (huntTrib s).link = s.link := rfl
@[simp] theorem huntTrib_silenceTimer (s : State) :
    (huntTrib s).silenceTimer = s.silenceTimer := rfl
@[simp] theorem huntTrib_silenceCode (s : State) : (huntTrib s).silenceCode = s.silenceCode := rfl
@[simp] theorem huntTrib_ac (s : State) : (huntTrib s).ac = s.ac := rfl
@[simp] theorem huntTrib_stream (s : State) : (huntTrib s).stream = s.stream := rfl
@[simp] theorem huntTrib_free (s : State) : (huntTrib s).free = s.free := rfl
@[simp] theorem huntTrib_poolReserve (s : State) : (huntTrib s).poolReserve = s.poolReserve := rfl
@[simp] theorem huntTrib_poolLow (s : State) : (huntTrib s).poolLow = s.poolLow := rfl
@[simp] theorem huntTrib_ports (s : State) : (huntTrib s).ports = s.ports := rfl
@[simp] theorem huntTrib_fences (s : State) : (huntTrib s).fences = s.fences := rfl
@[simp] theorem huntTrib_bus (s : State) : (huntTrib s).bus = s.bus := rfl
@[simp] theorem huntTrib_urgentPtr (s : State) : (huntTrib s).urgentPtr = s.urgentPtr := rfl
@[simp] theorem huntTrib_normalPtr (s : State) : (huntTrib s).normalPtr = s.normalPtr := rfl
@[simp] theorem huntTrib_attn (s : State) : (huntTrib s).attn = s.attn := rfl
@[simp] theorem huntTrib_scan (s : State) : (huntTrib s).scan = s.scan := rfl
@[simp] theorem huntTrib_nextIndex (s : State) : (huntTrib s).nextIndex = s.nextIndex := rfl
@[simp] theorem huntTrib_alternation (s : State) : (huntTrib s).alternation = s.alternation := rfl
@[simp] theorem huntTrib_scanEnable (s : State) : (huntTrib s).scanEnable = s.scanEnable := rfl
@[simp] theorem huntTrib_reports (s : State) : (huntTrib s).reports = s.reports := rfl
@[simp] theorem huntTrib_reservations (s : State) :
    (huntTrib s).reservations = s.reservations := rfl
@[simp] theorem huntTrib_nextRC (s : State) : (huntTrib s).nextRC = s.nextRC := rfl
@[simp] theorem huntTrib_ring (s : State) : (huntTrib s).ring = s.ring := rfl
@[simp] theorem huntTrib_slot (s : State) : (huntTrib s).slot = s.slot := rfl
@[simp] theorem huntTrib_streamPending (s : State) :
    (huntTrib s).streamPending = s.streamPending := rfl
@[simp] theorem huntTrib_flowPending (s : State) : (huntTrib s).flowPending = s.flowPending := rfl
@[simp] theorem huntTrib_progressPending (s : State) :
    (huntTrib s).progressPending = s.progressPending := rfl
@[simp] theorem huntTrib_line (s : State) : (huntTrib s).line = s.line := rfl
@[simp] theorem huntTrib_turn (s : State) : (huntTrib s).turn = s.turn := rfl
@[simp] theorem huntTrib_tallies (s : State) : (huntTrib s).tallies = s.tallies := rfl
@[simp] theorem huntTrib_resetHeld (s : State) : (huntTrib s).resetHeld = s.resetHeld := rfl
@[simp] theorem huntTrib_decisionDue (s : State) : (huntTrib s).decisionDue = s.decisionDue := rfl
@[simp] theorem huntTrib_pending (s : State) : (huntTrib s).pending = s.pending := rfl

/-! ### Ports and fence entries where an operation leaves them alone -/

@[simp] theorem port_bump (t : Tally) (s : State) (p : PortNo) : (bump t s).port p = s.port p := rfl
@[simp] theorem port_callArbiter (s : State) (p : PortNo) : (callArbiter s).port p = s.port p := rfl
@[simp] theorem port_takeReservation (s : State) (p : PortNo) :
    (takeReservation s).port p = s.port p := rfl
@[simp] theorem port_returnReservation (s : State) (p : PortNo) :
    (returnReservation s).port p = s.port p := rfl
@[simp] theorem port_queueReport (b : ReportBody) (s : State) (p : PortNo) :
    (queueReport b s).port p = s.port p := rfl
@[simp] theorem port_useReservation (b : ReportBody) (s : State) (p : PortNo) :
    (useReservation b s).port p = s.port p := rfl
@[simp] theorem port_enterHold (c : HoldCause) (s : State) (p : PortNo) :
    (enterHold c s).port p = s.port p := rfl
@[simp] theorem port_frameReceived (s : State) (p : PortNo) :
    (frameReceived s).port p = s.port p := rfl
@[simp] theorem port_advanceAC (s : State) (p : PortNo) : (advanceAC s).port p = s.port p := rfl
@[simp] theorem port_dropTransaction (s : State) (p : PortNo) :
    (dropTransaction s).port p = s.port p := rfl
@[simp] theorem port_startSending (k : TxnKind) (q : PortNo) (s : State) (p : PortNo) :
    (startSending k q s).port p = s.port p := rfl
@[simp] theorem port_stopScan (flag : Bool) (s : State) (p : PortNo) :
    (stopScan flag s).port p = s.port p := rfl
@[simp] theorem port_placeAnswer (a : Answer) (s : State) (p : PortNo) :
    (placeAnswer a s).port p = s.port p := rfl
@[simp] theorem port_huntUplink (s : State) (p : PortNo) : (huntUplink s).port p = s.port p := rfl
@[simp] theorem port_huntTrib (s : State) (p : PortNo) : (huntTrib s).port p = s.port p := rfl
@[simp] theorem port_setFence (i : FenceNo) (e : FenceEntry) (s : State) (p : PortNo) :
    (setFence i e s).port p = s.port p := rfl
@[simp] theorem fence_bump (t : Tally) (s : State) (j : FenceNo) :
    (bump t s).fence j = s.fence j := rfl
@[simp] theorem fence_callArbiter (s : State) (j : FenceNo) :
    (callArbiter s).fence j = s.fence j := rfl
@[simp] theorem fence_takeReservation (s : State) (j : FenceNo) :
    (takeReservation s).fence j = s.fence j := rfl
@[simp] theorem fence_returnReservation (s : State) (j : FenceNo) :
    (returnReservation s).fence j = s.fence j := rfl
@[simp] theorem fence_queueReport (b : ReportBody) (s : State) (j : FenceNo) :
    (queueReport b s).fence j = s.fence j := rfl
@[simp] theorem fence_useReservation (b : ReportBody) (s : State) (j : FenceNo) :
    (useReservation b s).fence j = s.fence j := rfl
@[simp] theorem fence_enterHold (c : HoldCause) (s : State) (j : FenceNo) :
    (enterHold c s).fence j = s.fence j := rfl
@[simp] theorem fence_frameReceived (s : State) (j : FenceNo) :
    (frameReceived s).fence j = s.fence j := rfl
@[simp] theorem fence_advanceAC (s : State) (j : FenceNo) : (advanceAC s).fence j = s.fence j := rfl
@[simp] theorem fence_dropTransaction (s : State) (j : FenceNo) :
    (dropTransaction s).fence j = s.fence j := rfl
@[simp] theorem fence_startSending (k : TxnKind) (q : PortNo) (s : State) (j : FenceNo) :
    (startSending k q s).fence j = s.fence j := rfl
@[simp] theorem fence_stopScan (flag : Bool) (s : State) (j : FenceNo) :
    (stopScan flag s).fence j = s.fence j := rfl
@[simp] theorem fence_placeAnswer (a : Answer) (s : State) (j : FenceNo) :
    (placeAnswer a s).fence j = s.fence j := rfl
@[simp] theorem fence_huntUplink (s : State) (j : FenceNo) :
    (huntUplink s).fence j = s.fence j := rfl
@[simp] theorem fence_huntTrib (s : State) (j : FenceNo) : (huntTrib s).fence j = s.fence j := rfl
@[simp] theorem fence_setPort (p : PortNo) (x : Port) (s : State) (j : FenceNo) :
    (setPort p x s).fence j = s.fence j := rfl
@[simp] theorem fence_modPort (p : PortNo) (f : Port → Port) (s : State) (j : FenceNo) :
    (modPort p f s).fence j = s.fence j := rfl
@[simp] theorem fence_setPortState (p : PortNo) (st : PortState) (s : State) (j : FenceNo) :
    (setPortState p st s).fence j = s.fence j := rfl
@[simp] theorem fence_setQueue (p : PortNo) (q : List Item) (s : State) (j : FenceNo) :
    (setQueue p q s).fence j = s.fence j := rfl
@[simp] theorem fence_writeSettled (p : PortNo) (c : Count) (s : State) (j : FenceNo) :
    (writeSettled p c s).fence j = s.fence j := rfl

end Sys2Proof.Machine
end

