-- ==== Sys2Proof/Laws/Characters.lean ====
section
/-! SUPPORT. What sampling RXD can do, said once: its cases, what it leaves alone, and samples that only
wait; when the pair is driven, and the place of each bit in a frame's levels. -/

namespace Sys2Proof.Machine

/-! ### What hearing leaves alone -/

/-- Hearing writes the level, the character part way and the waiting commands. -/
theorem hearRxd_eq (half : Nat) (s : State) (level : Bool) :
    s.hearRxd half level =
      { s with
        rxdLevel := level
        rxdChar := (s.hearRxd half level).rxdChar
        pending := (s.hearRxd half level).pending } := by
  unfold State.hearRxd
  split <;> rfl

@[simp] theorem hearRxd_rxdLevel (half : Nat) (s : State) (level : Bool) :
    (s.hearRxd half level).rxdLevel = level := by
  rw [hearRxd_eq]

@[simp] theorem hearRxd_resetHeld (half : Nat) (s : State) (level : Bool) :
    (s.hearRxd half level).resetHeld = s.resetHeld := by
  rw [hearRxd_eq]

@[simp] theorem hearRxd_rx (half : Nat) (s : State) (level : Bool) :
    (s.hearRxd half level).rx = s.rx := by
  rw [hearRxd_eq]

@[simp] theorem hearLevels_nil (half : Nat) (s : State) : s.hearLevels half [] = s := rfl

@[simp] theorem hearLevels_cons (half : Nat) (level : Bool) (levels : List Bool) (s : State) :
    s.hearLevels half (level :: levels) = (s.hearRxd half level).hearLevels half levels := rfl

theorem hearLevels_append (half : Nat) (a b : List Bool) (s : State) :
    s.hearLevels half (a ++ b) = (s.hearLevels half a).hearLevels half b :=
  List.foldl_append

/-! ### The cases of a sample -/

/-- With no character part way, a sample of RXD begins one at a fall and otherwise changes the level
alone. -/
theorem hearRxd_idle {s : State} (h : s.resetHeld = false) (hc : s.rxdChar = none) (half : Nat)
    (level : Bool) :
    s.hearRxd half level =
      { s with
        rxdLevel := level
        rxdChar := if s.rxdLevel && !level then some ⟨half, []⟩ else none } := by
  simp [State.hearRxd, sampleRxd, h, hc]

/-- A sample before the middle of a bit only waits. -/
theorem hearRxd_wait {s : State} {c : PartChar} (h : s.resetHeld = false)
    (hc : s.rxdChar = some c) (hw : 1 < c.wait) (half : Nat) (level : Bool) :
    s.hearRxd half level =
      { s with rxdLevel := level, rxdChar := some { c with wait := c.wait - 1 } } := by
  simp [State.hearRxd, sampleRxd, samplePart, h, hc, hw]

/-- The sample at the middle of a bit is read. -/
theorem hearRxd_middle {s : State} {c : PartChar} (h : s.resetHeld = false)
    (hc : s.rxdChar = some c) (hw : c.wait ≤ 1) (half : Nat) (level : Bool) :
    s.hearRxd half level =
      { s with
        rxdLevel := level
        rxdChar := (middleOfBit half level c.bits).1
        pending := s.pending ++ ((middleOfBit half level c.bits).2.map fun c =>
          Instr.noise c.byte c.framingError).toList } := by
  simp [State.hearRxd, sampleRxd, samplePart, h, hc, Nat.not_lt.mpr hw]

/-- Samples before the middle of a bit, whatever their levels, only wait. -/
theorem hearLevels_wait (half : Nat) (levels : List Bool) :
    ∀ (s : State) (w : Nat) (bits : List Bool), s.resetHeld = false →
      s.rxdChar = some ⟨w + levels.length, bits⟩ → 1 ≤ w →
      s.hearLevels half levels =
        { s with rxdLevel := levels.getLast?.getD s.rxdLevel, rxdChar := some ⟨w, bits⟩ } := by
  induction levels with
  | nil => intro s w bits _ hc _; cases s; simp_all
  | cons l ls ih =>
    intro s w bits h hc hw
    rw [hearLevels_cons, hearRxd_wait h hc (by simp; omega)]
    refine (ih { s with rxdLevel := l, rxdChar := _ } w bits h ?_ hw).trans ?_
    · simp only [Option.some.injEq, PartChar.mk.injEq, and_true, List.length_cons]; omega
    · cases ls <;> simp [List.getLast?_cons]

/-! ### The pair -/

/-- TBDIR is asserted exactly while the hub drives a frame, or finishes a character of one. -/
theorem tbdir_eq_isSome_drivenFrame (s : State) : tbdir s = (drivenFrame s).isSome := by
  unfold tbdir drivenFrame
  cases s.bus <;> rfl

/-- What a RESTART makes of the bus: QUIET with the frame it abandons, QUIET with none, or as it was. -/
theorem abandonedBus_cases (s : State) :
    (∃ t, s.bus = .sending t ∧ abandonedBus s = .quiet t.replyTimeout (drivenFrame s)) ∨
      (∃ t d, s.bus = .awaiting t d ∧ abandonedBus s = .quiet t.replyTimeout none) ∨
      ((∀ t, s.bus ≠ .sending t) ∧ (∀ t d, s.bus ≠ .awaiting t d) ∧ abandonedBus s = s.bus) := by
  unfold abandonedBus
  split <;> simp_all

/-! ### Levels of bytes sent back to back -/

@[simp] theorem length_charLevels (c : LineChar) : (charLevels c).length = 10 := rfl

@[simp] theorem length_bytesLevels (bytes : List Byte) :
    (bytesLevels bytes).length = 10 * bytes.length := by
  induction bytes with
  | nil => rfl
  | cons b bs ih =>
    rw [bytesLevels, List.flatMap_cons, List.length_append, length_charLevels]
    rw [bytesLevels] at ih
    rw [ih, List.length_cons]; omega

/-- Bit `k` of byte `i` stands at bit time `10 * i + k`. -/
theorem getElem?_bytesLevels (bytes : List Byte) (i k : Nat) (b : Byte) (h : bytes[i]? = some b)
    (hk : k < 10) : (bytesLevels bytes)[10 * i + k]? = (charLevels ⟨b, false⟩)[k]? := by
  induction bytes generalizing i with
  | nil => simp at h
  | cons a bs ih =>
    rw [bytesLevels, List.flatMap_cons]
    cases i with
    | zero =>
      obtain rfl : a = b := by simpa using h
      rw [List.getElem?_append_left (by simpa using hk)]; simp
    | succ i =>
      rw [List.getElem?_append_right (by simp; omega), length_charLevels]
      have := ih i (by simpa using h)
      rwa [show 10 * (i + 1) + k - 10 = 10 * i + k by omega]

/-- The data bits of a character are its byte's, least significant first. -/
theorem getElem?_charLevels_data (c : LineChar) (j : Nat) (h : j < 8) :
    (charLevels c)[1 + j]? = some (c.byte.getLsbD j) := by
  obtain rfl | rfl | rfl | rfl | rfl | rfl | rfl | rfl :
    j = 0 ∨ j = 1 ∨ j = 2 ∨ j = 3 ∨ j = 4 ∨ j = 5 ∨ j = 6 ∨ j = 7 := by omega
  all_goals rfl

end Sys2Proof.Machine
end

