-- ==== Sys2Proof/Laws/Ops.lean ====
section
/-! SUPPORT. What each shared operation can do, said once: reading after a write, and the cases of the
operations that branch. -/

namespace Sys2Proof.Machine

/-! ### Ports, fence entries and tallies after a write -/

theorem mem_allPorts (p : PortNo) : p ∈ allPorts := by revert p; decide

theorem mem_allFences (i : FenceNo) : i ∈ allFences := by revert i; decide

@[simp] theorem port_setPort_same (p : PortNo) (x : Port) (s : State) :
    (setPort p x s).port p = x := by
  simp [setPort, State.port]

theorem port_setPort_other {p q : PortNo} (h : q ≠ p) (x : Port) (s : State) :
    (setPort p x s).port q = s.port q := by
  have : p.val ≠ q.val := fun e => h (Fin.ext e.symm)
  simp [setPort, State.port, this]

theorem port_setPort (p q : PortNo) (x : Port) (s : State) :
    (setPort p x s).port q = if q = p then x else s.port q := by
  by_cases h : q = p
  · simp [h]
  · simp [h, port_setPort_other h]

theorem port_modPort (p q : PortNo) (f : Port → Port) (s : State) :
    (modPort p f s).port q = if q = p then f (s.port p) else s.port q := port_setPort _ _ _ _

theorem port_setPortState (p q : PortNo) (st : PortState) (s : State) :
    (setPortState p st s).port q = if q = p then { s.port p with state := st } else s.port q :=
  port_modPort _ _ _ _

theorem port_setQueue (p r : PortNo) (q : List Item) (s : State) :
    (setQueue p q s).port r = if r = p then { s.port p with queue := q } else s.port r :=
  port_modPort p r (fun x => { x with queue := q }) s

theorem port_writeSettled (p r : PortNo) (c : Count) (s : State) :
    (writeSettled p c s).port r =
      if r = p then { s.port p with settled := c, dirty := true } else s.port r :=
  port_modPort p r (fun x => { x with settled := c, dirty := true }) s

/-- Two changes of one port record are one. -/
theorem modPort_modPort (p : PortNo) (f g : Port → Port) (s : State) :
    modPort p f (modPort p g s) = modPort p (f ∘ g) s := by
  simp [modPort, setPort, State.port]

theorem fence_setFence (i j : FenceNo) (e : FenceEntry) (s : State) :
    (setFence i e s).fence j = if j = i then e else s.fence j := by
  by_cases h : j = i
  · simp [h, setFence, State.fence]
  · have : i.val ≠ j.val := fun e => h (Fin.ext e.symm)
    simp [h, setFence, State.fence, this]

@[simp] theorem free_setQueue (p : PortNo) (q : List Item) (s : State) :
    (setQueue p q s).free = s.free + (s.port p).queue.length - q.length := rfl

/-! ### Port sets -/

theorem mem_members (m : PortSet) (p : PortNo) : p ∈ members m ↔ m.getLsbD p.val = true := by
  simp [members, mem_allPorts]

theorem nodup_members (m : PortSet) : (members m).Nodup := by
  unfold members
  exact List.Nodup.filter _ (by decide)

theorem portOfByte_of_lt {b : Byte} (h : b.toNat < 16) : portOfByte b = some ⟨b.toNat, h⟩ := by
  simp [portOfByte, h]

theorem portOfByte_of_ge {b : Byte} (h : 16 ≤ b.toNat) : portOfByte b = none := by
  simp [portOfByte, Nat.not_lt.mpr h]

/-! ### The cases of the operations that branch -/

theorem removeHead_cases (p : PortNo) (s : State) :
    ((s.port p).queue = [] ∧ removeHead p s = s) ∨
      ∃ it rest, (s.port p).queue = it :: rest ∧
        removeHead p s = callArbiter (setQueue p rest s) := by
  unfold removeHead
  split
  · exact .inl ⟨‹_›, rfl⟩
  · exact .inr ⟨_, _, ‹_›, rfl⟩

theorem settleHead_cases (p : PortNo) (s : State) :
    ((s.port p).queue = [] ∧ settleHead p s = s) ∨
      ∃ it rest, (s.port p).queue = it :: rest ∧
        settleHead p s = writeSettled p it.stamp (callArbiter (setQueue p rest s)) := by
  unfold settleHead
  split
  · exact .inl ⟨‹_›, rfl⟩
  · rename_i it rest h
    exact .inr ⟨it, rest, h, by simp [removeHead, h]⟩

theorem setHeadCounters_cases (p : PortNo) (f : Nat → Nat → Nat × Nat) (s : State) :
    setHeadCounters p f s = s ∨
      ∃ k st d a b rest, (s.port p).queue = .job k st d a b :: rest ∧
        setHeadCounters p f s = setQueue p (.job k st d (f a b).1 (f a b).2 :: rest) s := by
  unfold setHeadCounters
  split
  · exact .inr ⟨_, _, _, _, _, _, ‹_›, rfl⟩
  · exact .inl rfl

theorem appendItem_cases (it : Item) (s : State) (p : PortNo) :
    ((s.port p).queue = [] ∧ appendItem it s p = callArbiter (setQueue p [it] s)) ∨
      ((s.port p).queue ≠ [] ∧ appendItem it s p = setQueue p ((s.port p).queue ++ [it]) s) := by
  unfold appendItem
  cases h : (s.port p).queue <;> simp

theorem holdIfRunning_cases (c : HoldCause) (s : State) :
    (s.stream = .run ∧ holdIfRunning c s = enterHold c s) ∨
      ∃ k, s.stream = .hold k ∧ holdIfRunning c s = s := by
  unfold holdIfRunning
  split
  · exact .inl ⟨‹_›, rfl⟩
  · exact .inr ⟨_, ‹_›, rfl⟩

theorem admission_cases (stamp : Count) (ty : Byte) (v : Verdict) (f : State → State) (s : State) :
    (v = .accept ∧ admission stamp ty v f s = advanceAC (withFlags f s)) ∨
      (∃ r, v = .reject r ∧ entryFree s = true ∧
        admission stamp ty v f s = advanceAC (queueReport (.reject stamp ty r) s)) ∨
      ∃ d, admission stamp ty v f s = enterHold (.noRoom d) s := by
  cases v with
  | accept => exact .inl ⟨rfl, rfl⟩
  | reject r =>
    cases h : entryFree s
    · exact .inr (.inr ⟨.reports, by simp [admission, h]⟩)
    · exact .inr (.inl ⟨r, rfl, rfl, by simp [admission, h]⟩)
  | refuse d => exact .inr (.inr ⟨d, rfl⟩)

theorem counted_cases (stamp : Count) (ty : Byte) (v : State → Verdict) (f : State → State)
    (s : State) :
    counted stamp ty v f s = { bump .heldDiscard s with streamPending := true } ∨
      (s.stream = .run ∧ stamp = s.ac ∧
        counted stamp ty v f s = admission stamp ty (v s) f s) ∨
      counted stamp ty v f s = bump .duplicate s ∨ counted stamp ty v f s = enterHold .gap s := by
  unfold counted
  split
  · exact .inl rfl
  · rename_i h
    split
    · exact .inr (.inl ⟨h, ‹_›, rfl⟩)
    · split
      · exact .inr (.inr (.inl rfl))
      · exact .inr (.inr (.inr rfl))

theorem closeIfDone_cases (special : Option (PortNo × ClosedCause)) (s : State) (p : PortNo) :
    closeIfDone special s p = s ∨
      ∃ c cause, (s.port p).state = .closing c ∧ (s.port p).queue = [] ∧
        jobInFlight s p = false ∧ closeIfDone special s p = closePort p cause s := by
  unfold closeIfDone
  split
  · rename_i c h
    by_cases hd : ((s.port p).queue.isEmpty && !jobInFlight s p) = true
    · have hq : (s.port p).queue = [] ∧ jobInFlight s p = false := by simpa using hd
      refine .inr ?_
      rw [if_pos hd]
      cases special with
      | none => exact ⟨c, _, h, hq.1, hq.2, rfl⟩
      | some x => exact ⟨c, _, h, hq.1, hq.2, rfl⟩
    · exact .inl (if_neg hd)
  · exact .inl rfl

theorem evalScan_cases (s : State) :
    evalScan s = s ∨ (scanDue s = true ∧ evalScan s = callArbiter { s with scan := .pending }) := by
  unfold evalScan
  split
  · exact .inr ⟨‹_›, rfl⟩
  · exact .inl rfl

theorem arbitrate_cases (s : State) :
    arbitrate s = s ∨ (s.bus = .idle ∧ s.decisionDue = true ∧ arbitrate s = decision s) := by
  unfold arbitrate
  split
  · rename_i h
    simp only [Bool.and_eq_true, beq_iff_eq] at h
    exact .inr ⟨h.2, h.1, rfl⟩
  · exact .inl rfl

theorem event_cases (f : State → State) (s : State) :
    (s.resetHeld = true ∧ event f s = s) ∨
      (s.resetHeld = false ∧ event f s = endEvent (f s)) := by
  unfold event
  cases h : s.resetHeld <;> simp

theorem eventIf_cases (g : State → Bool) (f : State → State) (s : State) :
    eventIf g f s = s ∨
      (g s = true ∧ s.resetHeld = false ∧ eventIf g f s = endEvent (f s)) := by
  unfold eventIf event
  cases hg : g s <;> cases h : s.resetHeld <;> simp

/-! ### Queue lengths -/

/-- Replacing one queue shifts the sum of occupancies by the difference of lengths. -/
theorem sum_map_update (l : List PortNo) (h : l.Nodup) (p : PortNo) (hp : p ∈ l) (f g : PortNo → Nat)
    (hfg : ∀ q, q ≠ p → f q = g q) : (l.map f).sum + g p = (l.map g).sum + f p := by
  induction l with
  | nil => cases hp
  | cons a l ih =>
    rw [List.nodup_cons] at h
    simp only [List.map_cons, List.sum_cons]
    by_cases ha : a = p
    · subst ha
      have : l.map f = l.map g := List.map_congr_left fun q hq => hfg q fun e => h.1 (e ▸ hq)
      rw [this]; omega
    · have := ih h.2 (by simpa [Ne.symm ha] using hp)
      rw [hfg a ha]; omega

end Sys2Proof.Machine
end

