-- ==== Sys2Proof/WellFormed.lean ====
section
/-! DEFINITION. Which command terms are events of their row: bounds that every frame of the row
keeps (`Instr.carried`, which the machine asks for too), and the field values that tell the row from
its neighbours. -/

namespace Sys2Proof

/-- A tributary frame that one of the REPLY rows does not name: a kind other than REPLY, an empty
data field, or a status code above EVENT (R102, R132). -/
def isOtherFrame (kind : Byte) (data : List Byte) : Bool :=
  kind != replyKind ||
    match data with
    | [] => true
    | status :: _ => decide (4 < status.toNat)

/-- Whether the term is an event of its own row of the table. -/
def Instr.wellFormed (i : Instr) : Bool :=
  i.carried &&
  match i with
  | .outOfRangeLen byte ferr => ferr || decide (byte.toNat = 0 ∨ Config.maxLen < byte.toNat)
  | .damagedFrame body crc => crc != crc16 (byteOf body.length :: body)
  | .malformedFrame body => (decodeFrame body).isNone
  | .resumeUnknownMode mode _ => decide (1 < mode.toNat)
  | .tendUnknownAction _ action => decide (2 < action.toNat)
  | .closeUnknownMode _ _ mode => decide (1 < mode.toNat)
  | .queryUnknownKind _ kind _ _ => decide (kind.toNat = 0 ∨ 5 < kind.toNat)
  | .tributaryOtherFrame _ kind data => isOtherFrame kind data
  | .tributaryDamagedFrame chars => !chars.isEmpty
  | _ => true

end Sys2Proof
end

