-- ==== Sys2Proof/Tests/Slice0.lean ====
section
/-! SUPPORT. Tests: ill-formed terms that WellFormed refuses, the manual's CRC and frame examples, one-step
tests from its worked examples, and for each statement that has hypotheses a state that meets them. -/

namespace Sys2Proof.Machine

-- One test is evaluated at a time: many at once would each hold a thread's stack.
set_option Elab.async false

/-! ### WellFormed refuses -/

theorem test_wellFormed_refuses_longData :
    (Instr.send 0 0 (List.replicate 25 0)).wellFormed = false ∧
    (Instr.call 0 0 (List.replicate 25 0)).wellFormed = false ∧
    (Instr.fetch 0 0 (List.replicate 25 0)).wellFormed = false := by decide

theorem test_wellFormed_refuses_bodyLength :
    (Instr.damagedFrame [] 0).wellFormed = false ∧
    (Instr.malformedFrame []).wellFormed = false ∧
    (Instr.malformedFrame (List.replicate 41 0)).wellFormed = false := by decide

theorem test_wellFormed_refuses_longReply :
    (Instr.replyDone 5 (List.replicate 25 0)).wellFormed = false ∧
    (Instr.replyBusy 5 (List.replicate 25 0)).wellFormed = false ∧
    (Instr.replyRefused 5 (List.replicate 25 0)).wellFormed = false ∧
    (Instr.replyEvent 5 (List.replicate 25 0)).wellFormed = false ∧
    (Instr.replyNone 5 (List.replicate 25 0)).wellFormed = false ∧
    (Instr.tributaryOtherFrame 5 1 (List.replicate 26 0)).wellFormed = false := by decide

theorem test_wellFormed_refuses_inRangeLen :
    (Instr.outOfRangeLen 40 false).wellFormed = false ∧
    (Instr.outOfRangeLen 41 false).wellFormed = true := by decide

theorem test_wellFormed_refuses_goodCrc :
    (Instr.damagedFrame [0x40] 0x66FA).wellFormed = false ∧
    (Instr.damagedFrame [0x40] 0x66FB).wellFormed = true := by decide +kernel

theorem test_wellFormed_refuses_soundBody :
    (Instr.malformedFrame [0x40]).wellFormed = false ∧
    (Instr.malformedFrame [0x40, 0]).wellFormed = true := by decide

theorem test_wellFormed_refuses_knownCodes :
    (Instr.resumeUnknownMode 1 0).wellFormed = false ∧
    (Instr.tendUnknownAction 0 2).wellFormed = false ∧
    (Instr.closeUnknownMode 0 0 1).wellFormed = false ∧
    (Instr.queryUnknownKind 0 5 0 0).wellFormed = false := by decide

theorem test_wellFormed_refuses_namedReply :
    (Instr.tributaryOtherFrame 5 4 [3]).wellFormed = false ∧
    (Instr.tributaryOtherFrame 5 4 [5]).wellFormed = true ∧
    (Instr.tributaryOtherFrame 5 4 []).wellFormed = true := by decide

theorem test_wellFormed_refuses_noCharacters :
    (Instr.tributaryDamagedFrame []).wellFormed = false := by decide

/-! ### CRC and layouts -/

/-- R175: the CRC of the nine digits is 29B1h. -/
theorem test_crc_digits :
    crc16 [0x31, 0x32, 0x33, 0x34, 0x35, 0x36, 0x37, 0x38, 0x39] = 0x29B1#16 := by decide +kernel

/-- R175: the FILL frame. -/
theorem test_fill_frame :
    uplinkEnvelope HostFrame.fill.body = [0xC5, 0x01, 0x40, 0x66, 0xFA] := by decide +kernel

/-- R176: an OPEN frame's body written out, LEN 14. -/
theorem test_open_body :
    decodeFrame [0x26, 0x01, 0x2C, 7, 5, 6, 4, 1, 10, 2, 1, 3, 0, 1] =
      some (.openPort 300 7 ⟨5, 6, 4, 1, 10, 2, 1, 3, 0, 1⟩) := by decide

/-- R176: SEND 65535 for port 2 with two data bytes, LEN 6. -/
theorem test_send_body :
    decodeFrame [0x21, 0xFF, 0xFF, 2, 9, 8] = some (.job .send 65535 2 [9, 8]) := by decide

/-- R176: RESUME REBASE 10, TEND SKIP of port 0, QUERY QUEUE, RECALL. -/
theorem test_uncounted_bodies :
    decodeFrame [0x41, 1, 0, 10] = some (.resume 1 10) ∧
    decodeFrame [0x43, 0, 1] = some (.tend 0 1) ∧
    decodeFrame [0x44, 0x31, 3, 10, 16] = some (.query 0x31 3 10 16) ∧
    decodeFrame [0x45, 1, 0x22] = some (.recall 290) := by decide

/-- R176: FENCE over ports 1 and 2, MARK, CLOSE, SETUP. -/
theorem test_counted_bodies :
    decodeFrame [0x24, 2, 0x59, 0, 6] = some (.fence 601 6) ∧
    decodeFrame [0x25, 0, 204, 1] = some (.mark 204 1) ∧
    decodeFrame [0x27, 1, 0x30, 5, 0] = some (.close 304 5 0) ∧
    decodeFrame [0x28, 0, 102, 50, 92, 1] = some (.setup 102 50 92 1) := by decide

/-- R178: the FAULT report of section 5.10, event 5: RC 70, port 4, stamp 501, CALL, NO_REPLY,
attempts 1, not closing. -/
theorem test_fault_body :
    (TxFrame.report ⟨70, .fault 4 501 .call .noReply 1 false⟩).body =
      [0x62, 0, 0, 70, 4, 1, 0xF5, 0x22, 1, 1, 0, 0] := by decide

/-- R179: the STREAM report of section 2.11, event 5: HOLD, GAP, AC 65535, LIVE. -/
theorem test_stream_body :
    (TxFrame.stream (.hold .gap) 65535 0 .live).body = [0x70, 1, 4, 0, 0xFF, 0xFF, 0, 0, 1] := by
  decide

/-! ### States for the tests -/

/-- A hub in RUN at AC 100 with the link LIVE, an IDLE bus, and a frame in transmission. -/
def hub : State :=
  { State.reset with
    link := .live, silenceTimer := some 500, stream := .run, ac := 100, bus := .idle,
    streamPending := false, line := .busy (.flow 0 false 96) }

/-- The same hub in HOLD. -/
def held : State := { hub with stream := .hold .gap }

/-- OPEN parameters: address 5, quota 6, marks 4 and 1, retries 0, busy limit 1. -/
def terms : OpenParams := ⟨5, 6, 4, 1, 10, 0, 1, 1, 0, 1⟩

/-- Port `p` with this state and queue. -/
def portWith (p : PortNo) (st : PortState) (q : List Item) (s : State) : State :=
  setQueue p q (modPort p (fun x => { x with state := st, params := terms }) s)

/-- A CALL, a SEND and a marker of entry 0. -/
def aCall : Item := .job .call 90 [1] 0 0
def aSend : Item := .job .send 91 [] 0 0
def aMark : Item := .marker 92 0

/-- The transaction of the CALL of port 3. -/
def callTxn : Transaction := ⟨.job .call, 3, 5, 10⟩

/-- The CALL of port 3 awaits its reply. -/
def awaiting : State :=
  { portWith 3 .opened [aCall, aSend] hub with
    bus := .awaiting callTxn .running, reservations := 1 }

/-- A poll of port 3 awaits its reply. -/
def polling : State :=
  { portWith 3 .opened [] hub with
    bus := .awaiting ⟨.poll, 3, 5, 10⟩ .running, reservations := 1, scan := .running,
    nextIndex := 4 }

/-- Port 3 is FAULTED behind its CALL. -/
def faulted : State := portWith 3 (.faulted .noReply) [aCall, aSend] hub

/-- Ports 3 and 4 are OPEN and empty. -/
def twoPorts : State := portWith 4 .opened [] (portWith 3 .opened [] hub)

/-- Entry 0 gathers ports 3 and 4, both arrived. -/
def gathered : State :=
  setFence 0 (.gathering ⟨92, 0x18, 0x18⟩)
    { portWith 4 .opened [aMark] (portWith 3 .opened [aMark, aSend] hub) with reservations := 1 }

/-- The state a command leaves, or reset if it does not answer one. -/
def after (c : Instr) (s : State) : State :=
  match exec c s with
  | .next t => t
  | _ => State.reset

/-! ### One step from the worked examples -/

/-- Section 2.11, event 3: a frame one ahead of AC holds with GAP, AC unchanged. -/
theorem test_gap :
    (after (.send 101 3 []) hub).stream = .hold .gap ∧ (after (.send 101 3 []) hub).ac = 100 := by
  decide +kernel

/-- Spec 00 §6.3: with AC 2 the stamp 65534 is behind, and 32770 is ahead. -/
theorem test_behind_and_ahead : behind 65534 2 = true ∧ behind 32770 2 = false := by decide

/-- Section 3.11, event 3: a port at its quota refuses with QUOTA. -/
theorem test_quota :
    (after (.call 100 3 []) (portWith 3 .opened (List.replicate 6 aSend) hub)).stream =
      .hold (.noRoom .quota) := by decide +kernel

/-- Section 3.11, event 10: port 17 without a free entry is refused with REPORTS. -/
theorem test_reports :
    (after (.send 100 17 []) { hub with reservations := 32 }).stream = .hold (.noRoom .reports) ∧
    (after (.send 100 17 []) { hub with reservations := 31 }).ac = 101 := by decide +kernel

/-- R133: an EVENT reply becomes a report under the record's port and address. -/
theorem test_event :
    (after (.replyEvent 5 [7]) polling).reports = [⟨0, .event 3 5 [7]⟩] ∧
    (after (.replyEvent 5 [7]) polling).reservations = 0 := by decide +kernel

/-- Section 5.10, event 5: a timeout with retries 0 fails the CALL with NO_REPLY. -/
theorem test_timeout :
    (after .deadlineExpiry awaiting).reports = [⟨0, .fault 3 90 .call .noReply 1 false⟩] ∧
    ((after .deadlineExpiry awaiting).port 3).state = .faulted .noReply := by decide +kernel

/-- Section 4.8, event 2: a failed attempt of a head kept by a DISCARD close closes the port. -/
theorem test_kept_head :
    (after .deadlineExpiry
      { portWith 3 (.closing ⟨.discard, 99, 2, some 302⟩) [.job .call 300 [] 0 0] hub with
        bus := .awaiting { callTxn with port := 3 } .running
        reservations := 2
        ports := (modPort 3 (fun x => { x with params := { terms with retries := 2 } })
          (portWith 3 (.closing ⟨.discard, 99, 2, some 302⟩) [.job .call 300 [] 0 0] hub)).ports
      }).reports = [⟨0, .closed 3 99 .discarded 3 (some 302)⟩] := by decide +kernel

/-- R116, R19: a fence over two empty ports is released in its admission event. -/
theorem test_fence_at_once :
    (after (.fence 100 0x18) twoPorts).reports = [⟨0, .fence 100 0x18 .released⟩] ∧
    ((after (.fence 100 0x18) twoPorts).port 4).settled = 100 ∧
    (after (.fence 100 0x18) twoPorts).free = 96 := by decide +kernel

/-- R120: a FLUSH behind a failed head breaks the fence of its marker. -/
theorem test_flush_breaks :
    (after (.tendFlush 3)
      (setFence 0 (.gathering ⟨92, 0x18, 0x10⟩)
        { portWith 4 .opened [aMark] (portWith 3 (.faulted .noReply) [aCall, aMark] hub) with
          reservations := 1 })).reports =
      [⟨0, .fence 92 0x18 (.broken 3 .flush)⟩] := by decide +kernel

/-- R159: the release of RESET begins a STREAM frame at once. -/
theorem test_reset_stream :
    (after (.resetReleased true false) hub).line =
      .busy (.stream (.hold .restarted) 0 0 .quiet) ∧
    (after (.resetReleased true false) hub).rate = .r10 := by decide +kernel

/-- R173: C5h (11000101) on the line is a start bit, its bits from the least significant, a stop bit. -/
theorem test_start_levels :
    charLevels ⟨0xC5, false⟩ =
      [false, true, false, true, false, false, false, true, true, true] := by decide

/-- R173, with the FILL example of R175: five bytes on RXD are five characters, back to back. -/
theorem test_fill_on_the_line :
    (hub.hearLevels 1 (bitTimes 1 (bytesLevels [0xC5, 0x01, 0x40, 0x66, 0xFA]))).pending =
      [.noise 0xC5 false, .noise 0x01 false, .noise 0x40 false, .noise 0x66 false,
        .noise 0xFA false] := by decide +kernel

/-- R181: the POLL of device 5 begins A3h 05h 03h 00h on the pair. -/
theorem test_poll_frame :
    (drivenFrame { hub with bus := .sending ⟨.poll, 3, 5, 10⟩ }).map (List.take 4) =
      some [0xA3, 5, 3, 0] := by decide +kernel

/-- R111, R182: a RESTART in the second character of a POLL of device 5 lets 05h go out, to its stop bit,
and nothing after it. -/
theorem test_abandoned_character :
    (List.range 14).map (fun i => abandonedLevel 12
        (after .restart { hub with bus := .sending ⟨.poll, 3, 5, 10⟩ }) (8 + i)) =
      [none, none, some false, some true, some false, some true, some false, some false, some false,
        some false, some false, some true, none, none] := by decide +kernel

/-- R134: a scan that completes with ATTN asserted and no job to serve begins again at once. -/
theorem test_scan_again :
    (arbitrate { twoPorts with
      scan := .running, nextIndex := 5, attn := true, decisionDue := true }).bus =
      .sending ⟨.poll, 3, 5, 10⟩ := by decide +kernel

/-- The model's own: a command in the queue is taken by step. -/
theorem test_step :
    Sys2Proof.core.run 2 { State.reset with pending := [.fill, .noise 0 false] } =
      .next (after (.noise 0 false) (after .fill State.reset)) := by rfl

/-- R179: the content bytes of a HUB answer and of a PORT answer. -/
theorem test_answer_lengths :
    (hubView gathered).bytes.length = 48 ∧ (portView 3 gathered).bytes.length = 34 := by
  decide +kernel

/-! ### Witnesses: states and operands that meet a statement's hypotheses, clause by clause -/

theorem witness_StepRunsTheFrontCommand :
    ({ hub with pending := [.fill, .restart] }).pending = .fill :: [.restart] ∧ hub.pending = [] := by
  decide

theorem witness_CarriedCommandsComplete :
    (Instr.send 0 0 (List.replicate 24 0)).carried = true ∧
    (Instr.send 0 0 (List.replicate 25 0)).carried = false ∧
    (Instr.malformedFrame (List.replicate 40 0)).carried = true ∧
    (Instr.malformedFrame (List.replicate 41 0)).carried = false := by decide

theorem witness_NoTriggerNoEvent :
    State.reset.rx = .hunt ∧ State.reset.silenceTimer = none ∧ State.reset.line = .free ∧
    State.reset.tribRx = .hunt ∧ (State.reset.port 15).busyWait = none ∧ hub.bus = .idle ∧
    State.reset.bus = .quiet 255 none := by decide

theorem witness_HeldHubIgnores :
    ({ hub with resetHeld := true }).resetHeld = true ∧ (Instr.attnChange true).carried = true ∧
    Instr.fill.carried = true := by decide

theorem witness_ReceiverOffWhileDriving :
    ({ hub with bus := .sending callTxn }).bus = .sending callTxn ∧
    ({ hub with bus := .quiet 10 (some [0xA3]) }).bus = .quiet 10 (some [0xA3]) ∧
    goodFrameOf (.replyDone 5 []) = some (5, 4, [0]) ∧ (Instr.replyDone 5 []).carried = true := by
  decide

theorem witness_TimersAndEnds :
    hub.resetHeld = false ∧ hub.attn ≠ true ∧ hub.line = .busy (.flow 0 false 96) ∧
    ((modPort 3 (fun x => { x with busyWait := some 5 }) hub).port 3).busyWait = some 5 ∧
    (modPort 3 (fun x => { x with busyWait := some 5 }) hub).resetHeld = false ∧
    State.reset.bus = .quiet 255 none ∧ State.reset.resetHeld = false ∧
    ({ hub with bus := .quiet 10 (some [0xA3]) }).bus = .quiet 10 (some [0xA3]) := by decide

theorem witness_UplinkCharacters :
    hub.resetHeld = false ∧ hub.rx = .hunt ∧ (0xC4#8 ≠ 0xC5#8) ∧
    ({ hub with rx := .inFrame [] }).rx = .inFrame [] ∧ 1 ≤ (40#8).toNat ∧ (40#8).toNat ≤ 40 ∧
    1 ≤ (1#8).toNat ∧ (41#8 ≠ 0xC5#8 ∧ 40 < (41#8).toNat) ∧
    (0#8 ≠ 0xC5#8 ∧ (0#8).toNat = 0) := by decide

/-- A receiver ready for a character, the lengths of a glitch and of a held line, a line at space, and
RESET held. -/
theorem witness_UplinkCharacters_levels :
    hub.resetHeld = false ∧ hub.rxdLevel = true ∧ hub.rxdChar = none ∧
    ([] : List Bool).length + 1 = 1 ∧ [true, false, true].length + 1 = 4 ∧ 19 * 1 < 20 ∧
    ({ hub with rxdLevel := false }).rxdLevel = false ∧
    ({ hub with resetHeld := true }).resetHeld = true := by decide

theorem witness_DamagedFrame :
    hub.resetHeld = false ∧ hub.stream = .run ∧ held.stream = .hold .gap ∧
    ({ hub with rx := .inFrame [1] }).rx = .inFrame (1 :: []) ∧
    ({ held with rx := .inFrame [40, 0] }).rx = .inFrame (40 :: [0]) ∧
    1 ≤ ([0x40] : List Byte).length ∧ (List.replicate 40 (0 : Byte)).length ≤ 40 ∧
    0x66FB#16 ≠ crc16 [BitVec.ofNat 8 1, 0x40] := by decide +kernel

theorem witness_MalformedFrame :
    hub.resetHeld = false ∧ hub.stream = .run ∧ held.resetHeld = false ∧
    held.stream = .hold .gap ∧ decodeFrame [0x99] = none ∧
    decodeFrame (0x99 :: List.replicate 39 0) = none := by decide

theorem witness_BytesMakeTheFrame :
    Settled hub ∧ hub.rx = .hunt ∧ hostFrameOf .restart = some .restart ∧
    hostFrameOf (.send 100 3 (List.replicate 24 0)) =
      some (.job .send 100 3 (List.replicate 24 0)) ∧
    (Instr.send 100 3 (List.replicate 24 0)).carried = true := by decide +kernel

theorem witness_BytesMakeTheEnvelope :
    Settled hub ∧ hub.rx = .hunt ∧ 1 ≤ ([0x99] : List Byte).length ∧
    (List.replicate 40 (0 : Byte)).length ≤ 40 := by decide +kernel

theorem witness_FrameLayoutsReadBack :
    frameBounded (.job .fetch 1 2 (List.replicate 24 0)) = true ∧
    decodeFrame [0x42] = some .restart := by decide

theorem witness_FillActsByReception : hub.resetHeld = false := by decide

theorem witness_SilenceExpiry :
    hub.resetHeld = false ∧ hub.silenceTimer = some 500 ∧ hub.stream = .run ∧
    held.resetHeld = false ∧ held.silenceTimer = some 500 ∧ held.stream = .hold .gap := by decide

theorem witness_CountedFrameInHold :
    countedStamp (.mark 100 0) = some 100 ∧ (Instr.mark 100 0).carried = true ∧
    held.resetHeld = false ∧ held.stream = .hold .gap := by decide

theorem witness_CountedFrameNotAtAC :
    countedStamp (.mark 99 0) = some 99 ∧ (Instr.mark 99 0).carried = true ∧
    hub.resetHeld = false ∧ hub.stream = .run ∧
    1 ≤ (hub.ac - 99).toNat ∧ (hub.ac - 32869).toNat = 32767 ∧
    1 ≤ ((101 : Count) - hub.ac).toNat ∧ ((32868 : Count) - hub.ac).toNat = 32768 := by decide

theorem witness_Resume :
    held.resetHeld = false ∧ held.stream = .hold .gap ∧ (100 : Count) = held.ac ∧
    ((32867 : Count) - held.ac).toNat = 32767 ∧ 32768 ≤ ((32868 : Count) - held.ac).toNat ∧
    hub.stream = .run ∧ (101 : Count) ≠ held.ac ∧ 2 ≤ (2#8).toNat := by decide

theorem witness_Restart : awaiting.resetHeld = false ∧ awaiting.stream = .run := by decide

theorem witness_JobAdmission :
    hub.resetHeld = false ∧ hub.stream = .run ∧ (List.replicate 24 (0 : Byte)).length ≤ 24 ∧
    16 ≤ (16#8).toNat ∧ (15#8).toNat = (15 : PortNo).val ∧ (hub.port 15).state = .closed ∧
    ((portWith 3 (.closing ⟨.finish, 9, 0, none⟩) [aSend] hub).port 3).state =
      .closing ⟨.finish, 9, 0, none⟩ ∧
    (twoPorts.port 3).state = .opened ∧ (faulted.port 3).state = .faulted .noReply ∧
    ((portWith 3 .opened (List.replicate 6 aSend) hub).port 3).params.quota.toNat ≤
      ((portWith 3 .opened (List.replicate 6 aSend) hub).port 3).queue.length ∧
    ((portWith 3 .opened (List.replicate 5 aSend) hub).port 3).queue.length <
      ((portWith 3 .opened (List.replicate 5 aSend) hub).port 3).params.quota.toNat ∧
    ({ twoPorts with free := 0 }).free = 0 ∧ 0 < ({ twoPorts with free := 1 }).free := by decide

theorem witness_FenceAdmission :
    twoPorts.resetHeld = false ∧ twoPorts.stream = .run ∧ (members 0x8#16).length < 2 ∧
    (2 : PortNo) ∈ members 0x0C#16 ∧ (twoPorts.port 2).state = .closed ∧
    2 ≤ (members 0x18#16).length ∧ (∀ p ∈ members 0x18#16, (twoPorts.port p).state = .opened) ∧
    (∀ i, ({ twoPorts with fences := Vector.replicate 4 (.gathering ⟨9, 6, 0⟩) }).fence i ≠ .free) ∧
    twoPorts.fence 3 = .free ∧
    (∃ p ∈ members 0x18#16,
      ((portWith 4 .opened (List.replicate 6 aSend) twoPorts).port p).params.quota.toNat ≤
        ((portWith 4 .opened (List.replicate 6 aSend) twoPorts).port p).queue.length) ∧
    (∀ p ∈ members 0x18#16,
      (twoPorts.port p).queue.length < (twoPorts.port p).params.quota.toNat) ∧
    ({ twoPorts with free := 1 }).free < (members 0x18#16).length ∧
    (members 0x18#16).length ≤ ({ twoPorts with free := 2 }).free ∧
    32 ≤ entriesInUse { twoPorts with reservations := 32 } ∧
    entriesInUse { twoPorts with reservations := 31 } < 32 := by decide +kernel

theorem witness_FencePlacingAndRelease :
    (setFence 0 (.gathering ⟨9, 6, 0⟩) twoPorts).fence 1 = .free ∧
    (∀ j, j < 1 → (setFence 0 (.gathering ⟨9, 6, 0⟩) twoPorts).fence j ≠ .free) ∧
    gathered.fence 0 = .gathering ⟨92, 0x18, 0x18⟩ ∧ (0x18#16 : PortSet) ≠ 0 ∧
    (∀ p : PortNo, (0x18#16).getLsbD p.val = true → headIsMarker gathered 0 p = true) := by
  decide +kernel

theorem witness_MarkAdmission :
    hub.resetHeld = false ∧ hub.stream = .run ∧ 2 ≤ (2#8).toNat ∧
    32 ≤ entriesInUse { hub with reservations := 32 } ∧
    entriesInUse { hub with reservations := 31 } < 32 := by decide

theorem witness_SetupAndScanEnable :
    hub.resetHeld = false ∧ hub.stream = .run ∧ 95 < (96#8).toNat ∧ 2 ≤ (2#8).toNat ∧
    (95#8).toNat ≤ 95 ∧ (1#8).toNat ≤ 1 ∧ hub.scanEnable = true ∧
    ({ hub with scanEnable := false }).scanEnable = false ∧
    polling.scanEnable = true ∧ polling.scan = .running ∧
    polling.bus = .awaiting ⟨.poll, 3, 5, 10⟩ .running ∧ hub.scan ≠ .running := by decide

theorem witness_OpenAdmission :
    hub.resetHeld = false ∧ hub.stream = .run ∧ 16 ≤ (16#8).toNat ∧
    (15#8).toNat = (15 : PortNo).val ∧ (twoPorts.port 3).state ≠ .closed ∧
    (hub.port 15).state = .closed ∧ paramsInRange terms = true ∧
    paramsInRange ⟨30, 96, 96, 95, 255, 7, 255, 15, 1, 1⟩ = true ∧
    paramsInRange ⟨31, 96, 96, 95, 255, 7, 255, 15, 1, 1⟩ = false ∧
    (∃ q : PortNo, q ≠ 15 ∧ (twoPorts.port q).state ≠ .closed ∧
      (twoPorts.port q).params.address = terms.address) ∧
    (∀ q : PortNo, q ≠ 15 → (hub.port q).state ≠ .closed →
      (hub.port q).params.address ≠ terms.address) := by decide +kernel

theorem witness_CloseAdmission :
    twoPorts.resetHeld = false ∧ twoPorts.stream = .run ∧ 16 ≤ (16#8).toNat ∧
    (3#8).toNat = (3 : PortNo).val ∧ 2 ≤ (2#8).toNat ∧ (twoPorts.port 3).state = .opened ∧
    (faulted.port 3).state = .faulted .noReply ∧ (hub.port 3).state = .closed ∧
    32 ≤ entriesInUse { twoPorts with reservations := 32 } ∧
    entriesInUse { twoPorts with reservations := 31 } < 32 ∧
    ((portWith 3 (.closing ⟨.finish, 9, 0, none⟩) [aSend] hub).port 3).state =
      .closing ⟨.finish, 9, 0, none⟩ ∧
    ((portWith 3 (.closing ⟨.discard, 9, 0, none⟩) [aSend] hub).port 3).state =
      .closing ⟨.discard, 9, 0, none⟩ := by decide

theorem witness_CloseEffects :
    (awaiting.port 3).state = .opened ∧ (faulted.port 3).state = .faulted .noReply ∧
    ((portWith 3 (.closing ⟨.finish, 9, 0, none⟩) [aSend] hub).port 3).state =
      .closing ⟨.finish, 9, 0, none⟩ ∧
    discarded hub 3 = [] ∧ discarded awaiting 3 = [] ++ [aSend] := by decide

theorem witness_WholeQueueDiscard :
    PoolConserved gathered ∧
    (∀ q : PortNo, (0x18#16).getLsbD q.val = false →
      ∀ it ∈ (gathered.port q).queue, it.isMarkerOf 0 = false) ∧
    gathered.fence 0 = .gathering ⟨92, 0x18, 0x18⟩ ∧
    (∀ i, i ≠ 0 → gathered.fence i = .free ∧
      ∀ it ∈ discarded gathered 3, it.isMarkerOf i = false) ∧
    (0x18#16).getLsbD (3 : PortNo).val = true ∧
    allFences.filter (fun i => (discarded gathered 3).any (Item.isMarkerOf i)) = [0] ∧
    jobInFlight gathered 3 = false ∧ ([0] : List FenceNo)[0]? = some 0 := by
  decide +kernel

theorem witness_WholeQueueDiscard_inFlight :
    PoolConserved { awaiting with free := 94 } ∧
    (∀ i, ({ awaiting with free := 94 }).fence i = .free) ∧
    (∀ it ∈ discarded { awaiting with free := 94 } 3, ∀ i, it.isMarkerOf i = false) ∧
    jobInFlight { awaiting with free := 94 } 3 = true := by decide +kernel

theorem witness_ReachingClosed :
    ((portWith 3 (.closing ⟨.finish, 9, 0, none⟩) [] hub).port 3).state =
      .closing ⟨.finish, 9, 0, none⟩ ∧
    ((portWith 3 (.closing ⟨.finish, 9, 0, none⟩) [] hub).port 3).queue = [] ∧
    jobInFlight (portWith 3 (.closing ⟨.finish, 9, 0, none⟩) [] hub) 3 = false ∧
    (awaiting.port 3).queue ≠ [] ∧ jobInFlight awaiting 3 = true ∧
    ((closeDonePorts none (portWith 3 (.closing ⟨.discard, 9, 0, none⟩) [aSend] hub)).port 3).state =
      .closing ⟨.discard, 9, 0, none⟩ := by decide +kernel

theorem witness_Tend :
    faulted.resetHeld = false ∧ (3#8).toNat = (3 : PortNo).val ∧
    (faulted.port 3).state = .faulted .noReply ∧
    (faulted.port 3).queue = .job .call 90 [1] 0 0 :: [aSend] ∧ 16 ≤ (16#8).toNat ∧
    (hub.port 3).state = .closed ∧ 3 ≤ (3#8).toNat := by decide

theorem witness_OutcomeUnderPortState :
    (awaiting.port 3).state = .opened ∧
    ((portWith 3 (.closing ⟨.discard, 9, 0, none⟩) [aCall, aSend] hub).port 3).state =
      .closing ⟨.discard, 9, 0, none⟩ ∧
    ((portWith 3 (.closing ⟨.discard, 9, 0, none⟩) [aCall, aSend] hub).port 3).queue =
      aCall :: [aSend] ∧
    jobInFlight (portWith 3 (.closing ⟨.discard, 9, 0, none⟩) [aCall, aSend] hub) 3 = false := by
  decide

theorem witness_ReleasesLeaveNoneComplete :
    (settleFences (setFence 1 (.gathering ⟨95, 0x28, 0⟩) gathered)).fence 1 =
      .gathering ⟨95, 0x28, 0⟩ ∧ gathered.fence 3 = .free ∧
    (arrive gathered).fence 0 = .gathering ⟨92, 0x18, 0x18⟩ ∧
    (∀ i g, (arrive twoPorts).fence i = .gathering g → g.arrived ≠ g.members) := by
  refine ⟨by decide +kernel, by decide +kernel, by decide +kernel, fun i g h => ?_⟩
  have free : ∀ i, (arrive twoPorts).fence i = .free := by decide +kernel
  simp [free i] at h

theorem witness_EndOfSending :
    ({ portWith 3 .opened [aSend] hub with bus := .sending ⟨.job .send, 3, 5, 10⟩ }).resetHeld =
      false ∧
    ({ portWith 3 .opened [aSend] hub with bus := .sending ⟨.job .send, 3, 5, 10⟩ }).bus =
      .sending ⟨.job .send, 3, 5, 10⟩ ∧
    (({ portWith 3 .opened [aSend] hub with bus := .sending ⟨.job .send, 3, 5, 10⟩ }).port 3).queue =
      aSend :: [] ∧
    ({ awaiting with bus := .sending callTxn }).bus = .sending callTxn ∧
    ({ polling with bus := .sending ⟨.poll, 3, 5, 10⟩ }).bus = .sending ⟨.poll, 3, 5, 10⟩ ∧
    (({ awaiting with bus := .sending callTxn }).port 3).queue = .job .call 90 [1] 0 0 :: [aSend] ∧
    callTxn.kind = .job .call ∧ hub.bus = .idle ∧ tbdir hub = false ∧
    tbdir { hub with bus := .quiet 10 (some [0xA3]) } = true ∧
    ({ hub with bus := .quiet 10 none }).bus = .quiet 10 none ∧
    ({ awaiting with bus := .sending callTxn }).resetHeld = false := by
  decide

theorem witness_EndOfSending_levels :
    (∃ bytes, drivenFrame { hub with bus := .sending ⟨.poll, 3, 5, 10⟩ } = some bytes ∧
      bytes[0]? = some 0xA3 ∧ bytes.length = 6) := ⟨_, rfl, by decide +kernel, by decide +kernel⟩

theorem witness_DeadlineAndAddress :
    awaiting.resetHeld = false ∧ awaiting.bus = .awaiting callTxn .running ∧
    awaiting.tribRx = .hunt ∧ ({ awaiting with tribRx := .inFrame [] }).tribRx = .inFrame [] ∧
    ({ awaiting with bus := .awaiting callTxn .passed }).bus = .awaiting callTxn .passed ∧
    (6 : Byte) ≠ callTxn.address := by decide

theorem witness_DoneReply :
    awaiting.resetHeld = false ∧ awaiting.bus = .awaiting ⟨.job .call, 3, 5, 10⟩ .running ∧
    JobKind.call ≠ .send ∧ JobKind.fetch ≠ .send ∧ (awaiting.port 3).queue = aCall :: [aSend] ∧
    (List.replicate 24 (0 : Byte)).length ≤ 24 ∧
    ({ awaiting with bus := .awaiting ⟨.job .fetch, 3, 5, 10⟩ .met }).bus =
      .awaiting ⟨.job .fetch, 3, 5, 10⟩ .met := by decide

theorem witness_BusyAndRefusedReplies :
    awaiting.resetHeld = false ∧ awaiting.bus = .awaiting ⟨.job .call, 3, 5, 10⟩ .running ∧
    (awaiting.port 3).queue = .job .call 90 [1] 0 0 :: [aSend] ∧
    0 < (awaiting.port 3).params.busyLimit.toNat ∧
    (awaiting.port 3).params.busyLimit.toNat ≤ 1 ∧ (awaiting.port 3).state = .opened ∧
    ((portWith 3 (.closing ⟨.discard, 9, 0, none⟩) [aCall] hub).port 3).state =
      .closing ⟨.discard, 9, 0, none⟩ := by decide

theorem witness_FailedAttempt :
    awaiting.resetHeld = false ∧ awaiting.bus = .awaiting ⟨.job .call, 3, 5, 10⟩ .running ∧
    (awaiting.port 3).queue = .job .call 90 [1] 0 0 :: [aSend] ∧ awaiting.tribRx ≠ .inFrame [] ∧
    goodFrameOf (.replyNone 5 []) = some (5, replyKind, [3]) ∧ (Instr.replyNone 5 []).carried = true ∧
    ({ awaiting with tribRx := .inFrame [5, 4] }).tribRx = .inFrame (5 :: [4]) ∧
    (awaiting.port 3).params.retries.toNat < 0 + 1 ∧
    0 + 1 ≤ ((modPort 3 (fun x => { x with params := { terms with retries := 1 } })
      awaiting).port 3).params.retries.toNat := by decide

theorem witness_FailedAttempt_badReply : ¬ validReply replyKind [3] := by
  rintro ⟨-, ⟨a, h, -⟩ | h | ⟨c, h⟩⟩ <;> simp at h

theorem witness_PollOutcome :
    polling.resetHeld = false ∧ polling.bus = .awaiting ⟨.poll, 3, 5, 10⟩ .running ∧
    1 ≤ ([7] : List Byte).length ∧ (List.replicate 16 (0 : Byte)).length ≤ 16 ∧
    goodFrameOf (.replyEvent 5 []) = some (5, replyKind, [4]) ∧
    (Instr.replyEvent 5 []).carried = true ∧
    ({ polling with tribRx := .inFrame [5] }).tribRx = .inFrame (5 :: []) ∧
    polling.tribRx ≠ .inFrame [] := by decide

theorem witness_PollOutcome_silent : ¬ pollAnswer replyKind [4] := by
  rintro ⟨-, ⟨a, h, h1, -⟩ | h⟩
  · simp only [List.cons.injEq] at h
    obtain ⟨-, rfl⟩ := h
    simp at h1
  · simp at h

theorem witness_StrayFrame :
    hub.resetHeld = false ∧ goodFrameOf (.replyDone 6 []) = some (6, 4, [0]) ∧
    (Instr.replyDone 6 []).carried = true ∧ hub.bus = .idle ∧
    State.reset.bus = .quiet 255 none ∧ awaiting.bus = .awaiting callTxn .running ∧
    callTxn.address ≠ 6 := by decide

/-- The deadline has passed with a START held. -/
def startAtDeadline : State :=
  { awaiting with bus := .awaiting callTxn .passed, tribRx := .inFrame [] }

theorem witness_StrayFrame_answers :
    exec (.deadlineMet (some 6)) startAtDeadline =
      .next (after (.deadlineMet (some 6)) startAtDeadline) := rfl

/-- The address byte of a stranger takes the deadline there; with a head that is eligible a transaction
begins in that event, and otherwise the rest of the frame is received. -/
theorem witness_StrayFrame_afterDeadline :
    startAtDeadline.resetHeld = false ∧ startAtDeadline.bus = .awaiting callTxn .passed ∧
    startAtDeadline.tribRx = .inFrame [] ∧
    (after (.deadlineMet (some 6)) startAtDeadline).tribRx = .inFrame [6] ∧
    (after (.deadlineMet (some 6)) (portWith 4 .opened [aSend] startAtDeadline)).tribRx = .hunt := by
  decide +kernel

theorem witness_DamagedTributaryFrame :
    awaiting.resetHeld = false ∧ awaiting.tribRx = .hunt ∧ tbdir awaiting = false ∧
    (0xA2#8 ≠ 0xA3#8) ∧ ({ awaiting with tribRx := .inFrame [6, 4] }).tribRx = .inFrame [6, 4] ∧
    ([6, 4] : List Byte).length = 2 ∧ 25 < (26#8).toNat ∧
    ({ awaiting with tribRx := .inFrame [6, 4, 1, 0, 7] }).tribRx =
      .inFrame (6 :: 4 :: 1 :: ([0] ++ [7])) ∧ ([0] : List Byte).length = (1#8).toNat ∧
    word16 7 7 ≠ crc16 (6 :: 4 :: 1 :: [0]) ∧
    ([6, 4] : List Byte).head? ≠ some callTxn.address := by decide +kernel

theorem witness_CharactersMakeTheReply :
    Settled awaiting ∧ awaiting.tribRx = .hunt ∧ awaiting.bus = .awaiting callTxn .running ∧
    goodFrameOf (.replyDone 5 (List.replicate 24 0)) = some (5, 4, 0 :: List.replicate 24 0) ∧
    (Instr.replyDone 5 (List.replicate 24 0)).carried = true ∧
    Settled startAtDeadline ∧ startAtDeadline.tribRx = .inFrame [] := by decide +kernel

theorem witness_ArbiterServesJobs :
    ({ faulted with decisionDue := true }).bus = .idle ∧
    ({ faulted with decisionDue := true }).decisionDue = true ∧
    ({ faulted with decisionDue := true }).scan = .inactive ∧
    eligibleHead (portWith 3 .opened [aCall] hub) 3 = some .call ∧
    ((portWith 3 .opened [aCall] hub).port 3).params.urgent ≠ 1 ∧
    (∀ q, ((portWith 3 .opened [aCall] hub).port q).params.urgent = 1 →
      eligibleHead (portWith 3 .opened [aCall] hub) q = none) ∧
    ((modPort 3 (fun x => { x with params := { terms with urgent := 1 } })
      (portWith 3 .opened [aCall] hub)).port 3).params.urgent = 1 ∧
    (∀ q, eligibleHead faulted q = none) ∧ faulted.attn = false := by decide +kernel

theorem witness_ArbiterServesScans :
    ({ twoPorts with scan := .pending, decisionDue := true }).bus = .idle ∧
    ({ twoPorts with scan := .pending, decisionDue := true }).decisionDue = true ∧
    (twoPorts.port 3).listens = true ∧
    (∀ q : PortNo, 0 ≤ q.val → q.val < (3 : PortNo).val → (twoPorts.port q).listens = false) ∧
    entriesInUse { twoPorts with reservations := 31 } < 32 ∧
    ({ twoPorts with scan := .running, nextIndex := 5 }).scan = .running ∧
    (∀ q : PortNo, 5 ≤ q.val → (twoPorts.port q).listens = false) ∧
    (∀ q, eligibleHead twoPorts q = none) ∧
    eligibleHead (portWith 3 .opened [aCall] twoPorts) 3 = some .call ∧ twoPorts.attn = false := by
  decide +kernel

/-- A scan that is PENDING with port 3 listening and no report entry free. -/
def noRoom : State := { twoPorts with scan := .pending, decisionDue := true, reservations := 32 }

theorem witness_ArbiterServesScans_noRoom :
    noRoom.bus = .idle ∧ noRoom.decisionDue = true ∧ noRoom.scan = .pending ∧
    0 ≤ (3 : PortNo).val ∧ (noRoom.port 3).listens = true ∧ 32 ≤ entriesInUse noRoom ∧
    (∀ q, eligibleHead noRoom q = none) ∧
    ({ noRoom with scan := .running, nextIndex := 4 }).nextIndex ≤ (4 : PortNo).val ∧
    (noRoom.port 4).listens = true ∧
    eligibleHead (portWith 3 .opened [aSend] noRoom) 3 = some .send ∧
    ((portWith 3 .opened [aSend] noRoom).port 3).params.urgent ≠ 1 ∧
    (∀ q, ((portWith 3 .opened [aSend] noRoom).port q).params.urgent = 1 →
      eligibleHead (portWith 3 .opened [aSend] noRoom) q = none) ∧
    (∀ q : PortNo, (q - noRoom.normalPtr).val < ((3 : PortNo) - noRoom.normalPtr).val →
      eligibleHead (portWith 3 .opened [aSend] noRoom) q = none) ∧
    ((modPort 3 (fun x => { x with params := { terms with urgent := 1 } })
      (portWith 3 .opened [aSend] noRoom)).port 3).params.urgent = 1 := by decide +kernel

/-- Ports 3 and 4 listen, ATTN is asserted, and a running scan has gone past them. -/
def scannedAll : State :=
  { twoPorts with scan := .running, nextIndex := 5, attn := true, decisionDue := true }

theorem witness_ArbiterServesScans_newScan :
    scannedAll.bus = .idle ∧ scannedAll.decisionDue = true ∧ scannedAll.scan = .running ∧
    (∀ q : PortNo, scannedAll.nextIndex ≤ q.val → (scannedAll.port q).listens = false) ∧
    (∀ q, eligibleHead scannedAll q = none) ∧ scannedAll.attn = true ∧
    scannedAll.scanEnable = true ∧ (scannedAll.port 3).listens = true ∧
    (∀ q : PortNo, q.val < (3 : PortNo).val → (scannedAll.port q).listens = false) ∧
    entriesInUse { scannedAll with reservations := 31 } < 32 ∧
    32 ≤ entriesInUse { scannedAll with reservations := 32 } ∧
    ({ scannedAll with scan := .inactive }).scan = .inactive := by decide +kernel

theorem witness_EndOfEventSettles_scan :
    ({ scannedAll with scan := .inactive }).scan = .inactive ∧ scannedAll.attn = true ∧
    scannedAll.scanEnable = true ∧ scannedAll.alternation = false ∧
    (scannedAll.port 3).state ≠ .closed ∧ (scannedAll.port 3).params.listen = 1 ∧
    awaiting.bus ≠ .idle ∧ hub.decisionDue = false := by decide +kernel

theorem witness_EndOfEventSettles : (endEvent { hub with line := .free }).line = .free := by
  decide +kernel

theorem witness_TransmitterChoice :
    hub.line = .busy (.flow 0 false 96) ∧ State.reset.line = .free ∧
    State.reset.streamPending = true ∧
    ({ hub with line := .free, flowPending := true }).flowPending = true ∧
    hub.streamPending = false ∧ hub.flowPending = false ∧
    ({ hub with slot := some (.ident 1) }).slot = some (.ident 1) ∧ hub.slot = none ∧
    ({ hub with reports := [⟨0, .echo 7⟩] }).reports = ⟨0, .echo 7⟩ :: [] ∧
    hub.progressPending = false ∧ hub.turn = .progress ∧
    ({ hub with progressPending := true }).progressPending = true ∧ hub.reports = [] := by decide

/-- Frames at the bounds of their fields, the shortest and the longest LEN, and the codes of a PORT
answer of a finishing port. -/
theorem witness_ReportLengths :
    (List.replicate 24 (0 : Byte)).length ≤ 24 ∧ 1 ≤ ([7] : List Byte).length ∧
    (List.replicate 16 (0 : Byte)).length ≤ 16 ∧
    (TxFrame.progress [(3, 9)]).body.length = 4 ∧
    (TxFrame.answer (.queue 0 3 0 16 (List.replicate 16 ⟨none, 0⟩))).body.length = 55 ∧
    State.reset.line = .free ∧ hub.line = .busy (.flow 0 false 96) ∧
    (TxFrame.flow 0 false 96).bytes[0]? = some 0xC5 ∧
    (portView 3 awaiting).head = .job .call 90 0 0 ∧ (portView 3 awaiting).state = .opened ∧
    (hubView gathered).fences[0] = .gathering ⟨92, 0x18, 0x18⟩ ∧
    (hubView awaiting).bus = .awaiting (.job .call) 3 := by decide +kernel

theorem witness_QueryAnswers :
    hub.resetHeld = false ∧ hub.slot = none ∧ (15#8).toNat = (15 : PortNo).val ∧
    16 ≤ (16#8).toNat ∧ 2 ≤ (2#8).toNat ∧ (0#8).toNat = 0 ∧ 6 ≤ (6#8).toNat := by decide

theorem witness_QueryAnswers_fields :
    hub.bus = .idle ∧ awaiting.bus = .awaiting callTxn .running ∧ State.reset.bus = .quiet 255 none ∧
    ({ hub with bus := .sending callTxn }).bus = .sending callTxn ∧ (hub.port 3).queue = [] ∧
    (awaiting.port 3).queue = .job .call 90 [1] 0 0 :: [aSend] ∧
    (gathered.port 3).queue = .marker 92 0 :: [aSend] := by decide +kernel

theorem witness_RecallAndOverrun :
    hub.resetHeld = false ∧ hub.slot = none ∧
    ({ hub with slot := some (.ident 1) }).slot.isSome = true ∧
    hostFrameOf (.recall 3) = some (.recall 3) ∧
    hostFrameOf (.queryIdent 1 0 0) = some (.query 1 5 0 0) ∧
    ({ hub with ring := [⟨2, .echo 7⟩, ⟨3, .echo 8⟩] }).ring = [⟨2, .echo 7⟩] ++ ⟨3, .echo 8⟩ :: [] ∧
    (∀ x ∈ ([⟨2, .echo 7⟩] : List Report), x.rc ≠ 3) ∧
    (∀ r ∈ ({ hub with ring := [⟨2, .echo 7⟩] }).ring, r.rc ≠ 3) := by decide

/-- The state with a FILL at the front of its queue. -/
def filling (s : State) : State := { s with pending := [.fill] }

theorem witness_StepKeepsPool :
    PoolConserved (filling awaiting) ∧ ∃ t, step (filling awaiting) = .next t :=
  ⟨by decide +kernel, _, rfl⟩

theorem witness_StepKeepsReservations :
    ReservationsHeld (filling awaiting) ∧ ∃ t, step (filling awaiting) = .next t :=
  ⟨by decide +kernel, _, rfl⟩

/-- A hub whose ring and queue hold report counts on both sides of the wrap. -/
def reporting : State :=
  filling { hub with ring := [⟨65535, .echo 1⟩], reports := [⟨0, .echo 2⟩], nextRC := 1 }

theorem witness_StepKeepsCounts : CountsConsecutive reporting ∧ ∃ t, step reporting = .next t :=
  ⟨by decide +kernel, _, rfl⟩

/-- A hub with a progress-dirty port. -/
def dirtied : State :=
  filling { modPort 3 (fun x => { x with dirty := true }) hub with progressPending := true }

theorem witness_StepKeepsProgress : ProgressAgrees dirtied ∧ ∃ t, step dirtied = .next t :=
  ⟨by decide +kernel, _, rfl⟩

theorem witness_StepKeepsFlags :
    FlagsAgree (filling awaiting) ∧ ∃ t, step (filling awaiting) = .next t :=
  ⟨by decide +kernel, _, rfl⟩

/-- A hub with a fence that gathers behind a failed head. -/
def gatheringHub : State :=
  filling (setFence 0 (.gathering ⟨92, 0x18, 0x10⟩)
    (portWith 4 .opened [aMark] (portWith 3 (.faulted .noReply) [aCall, aMark] hub)))

theorem witness_StepKeepsCoherence :
    Coherent (filling awaiting) ∧ Coherent gatheringHub ∧ ∃ t, step gatheringHub = .next t :=
  ⟨by decide +kernel, by decide +kernel, _, rfl⟩

theorem witness_StepKeepsBindings :
    BindingsDistinct (filling awaiting) ∧ (awaiting.port 3).state ≠ .closed ∧
    ∃ t, step (filling awaiting) = .next t :=
  ⟨by decide +kernel, by decide +kernel, _, rfl⟩

theorem witness_StepKeepsBusServed :
    BusServed (filling faulted) ∧ faulted.bus = .idle ∧ ∃ t, step (filling faulted) = .next t :=
  ⟨by decide +kernel, by decide +kernel, _, rfl⟩

end Sys2Proof.Machine
end

section
/-! PROOF. The evaluation of the flags at the end of an event, read off port by port and field by
field (R5, R13), and the values after pin reset. -/

namespace Sys2Proof.Machine

theorem any_congr_of_mem {α : Type} {l : List α} {f g : α → Bool} (h : ∀ a ∈ l, f a = g a) :
    l.any f = l.any g := by
  rw [Bool.eq_iff_iff, List.any_eq_true, List.any_eq_true]
  exact exists_congr fun a => and_congr_right fun ha => by rw [h a ha]

/-! ### The congestion flag of one port -/

/-- The record of a port once its congestion flag is evaluated against its record before the event
(R13, R14). -/
def evaluatedPort (before after : Port) : Port :=
  if after.queue.length = before.queue.length ∨ after.state = .closed then after
  else { after with congested := congestionOf after }

/-- The evaluation of a port's congestion flag marks FLOW (R13). -/
def marksFlow (before after : Port) : Bool :=
  decide (after.queue.length ≠ before.queue.length ∧ after.state ≠ .closed ∧
    (evaluatedPort before after).congested ≠ before.congested)

@[simp] theorem evaluatedPort_queue (x y : Port) : (evaluatedPort x y).queue = y.queue := by
  unfold evaluatedPort; split <;> rfl

theorem setPort_port (p : PortNo) (s : State) : setPort p (s.port p) s = s := by
  simp [setPort, State.port]

/-- One evaluation writes one port record and FLOW. -/
theorem evalCongestion_eq (before s : State) (p : PortNo) :
    evalCongestion before s p =
      { setPort p (evaluatedPort (before.port p) (s.port p)) s with
        flowPending := s.flowPending || marksFlow (before.port p) (s.port p) } := by
  unfold evalCongestion
  split
  case isTrue h =>
    have hport : evaluatedPort (before.port p) (s.port p) = s.port p := if_pos h
    have hflow : marksFlow (before.port p) (s.port p) = false :=
      decide_eq_false fun ⟨hlen, hopen, _⟩ => h.elim hlen hopen
    rw [hport, hflow, Bool.or_false, setPort_port]
  case isFalse h =>
    have hport : evaluatedPort (before.port p) (s.port p) =
        { s.port p with congested := congestionOf (s.port p) } := if_neg h
    have hflow : marksFlow (before.port p) (s.port p) =
        (congestionOf (s.port p) != (before.port p).congested) := by
      rw [not_or] at h
      simp [marksFlow, hport, h.1, h.2, bne, Bool.beq_eq_decide_eq]
    rw [hport, hflow]; rfl

/-! ### The congestion flags of all ports -/

theorem port_evalCongestion (before s : State) (p q : PortNo) :
    (evalCongestion before s p).port q =
      if q = p then evaluatedPort (before.port p) (s.port p) else s.port q := by
  rw [evalCongestion_eq]; exact port_setPort _ _ _ _

theorem port_foldl_evalCongestion (before : State) (l : List PortNo) (hl : l.Nodup) (s : State)
    (q : PortNo) :
    (l.foldl (evalCongestion before) s).port q =
      if q ∈ l then evaluatedPort (before.port q) (s.port q) else s.port q := by
  induction l generalizing s with
  | nil => simp
  | cons p l ih =>
    obtain ⟨hp, hl⟩ := List.nodup_cons.mp hl
    rw [List.foldl_cons, ih hl, port_evalCongestion]
    by_cases hq : q = p
    · subst hq; simp [hp]
    · simp [hq]

theorem flowPending_foldl_evalCongestion (before : State) (l : List PortNo) (hl : l.Nodup)
    (s : State) :
    (l.foldl (evalCongestion before) s).flowPending =
      (s.flowPending || l.any fun p => marksFlow (before.port p) (s.port p)) := by
  induction l generalizing s with
  | nil => simp
  | cons p l ih =>
    obtain ⟨hp, hl⟩ := List.nodup_cons.mp hl
    have hrest : (l.any fun q => marksFlow (before.port q) ((evalCongestion before s p).port q)) =
        l.any fun q => marksFlow (before.port q) (s.port q) :=
      any_congr_of_mem fun q hq => by
        rw [port_evalCongestion, if_neg (ne_of_mem_of_not_mem hq hp)]
    rw [List.foldl_cons, ih hl, hrest, List.any_cons, ← Bool.or_assoc, evalCongestion_eq]

/-- Evaluating congestion flags writes the port records and FLOW alone. -/
theorem foldl_evalCongestion_frame (before : State) (l : List PortNo) (s : State) :
    ∃ ports flow, l.foldl (evalCongestion before) s =
      { s with ports := ports, flowPending := flow } := by
  induction l generalizing s with
  | nil => exact ⟨s.ports, s.flowPending, rfl⟩
  | cons p l ih =>
    obtain ⟨ports, flow, h⟩ := ih (evalCongestion before s p)
    exact ⟨ports, flow, by rw [List.foldl_cons, h, evalCongestion_eq]; rfl⟩

/-! ### All flags -/

theorem evalPoolLow_eq (before s : State) :
    evalPoolLow before s =
      { s with
        poolLow := (evalPoolLow before s).poolLow
        flowPending := (evalPoolLow before s).flowPending } := by
  unfold evalPoolLow; split <;> rfl

@[simp] theorem port_evalPoolLow (before s : State) (p : PortNo) :
    (evalPoolLow before s).port p = s.port p := by
  rw [evalPoolLow_eq]; rfl

theorem poolLow_evalPoolLow (before s : State) :
    (evalPoolLow before s).poolLow =
      if s.free = before.free ∧ s.poolReserve = before.poolReserve then s.poolLow
      else decide (s.free ≤ s.poolReserve.toNat) := by
  unfold evalPoolLow; split <;> rfl

theorem flowPending_evalPoolLow (before s : State) :
    (evalPoolLow before s).flowPending =
      (s.flowPending ||
        decide (¬ (s.free = before.free ∧ s.poolReserve = before.poolReserve) ∧
          (evalPoolLow before s).poolLow ≠ before.poolLow)) := by
  by_cases h : s.free = before.free ∧ s.poolReserve = before.poolReserve
  · simp [evalPoolLow, h]
  · simp only [evalPoolLow, if_neg h]
    simp [h, bne, Bool.beq_eq_decide_eq]

/-- An event leaves every port record as it made it, but for its flag. -/
theorem port_withFlags (f : State → State) (s : State) (p : PortNo) :
    (withFlags f s).port p = evaluatedPort (s.port p) ((f s).port p) := by
  rw [withFlags, port_evalPoolLow, port_foldl_evalCongestion s allPorts (by decide),
    if_pos (mem_allPorts p)]

/-- The evaluation of flags writes the port records, pool-low and FLOW alone. -/
theorem withFlags_frame (f : State → State) (s : State) :
    withFlags f s =
      { f s with
        ports := (withFlags f s).ports
        poolLow := (withFlags f s).poolLow
        flowPending := (withFlags f s).flowPending } := by
  obtain ⟨ports, flow, h⟩ := foldl_evalCongestion_frame s allPorts (f s)
  rw [withFlags, h, evalPoolLow_eq]

@[simp] theorem free_withFlags (f : State → State) (s : State) :
    (withFlags f s).free = (f s).free := by rw [withFlags_frame]

@[simp] theorem poolReserve_withFlags (f : State → State) (s : State) :
    (withFlags f s).poolReserve = (f s).poolReserve := by rw [withFlags_frame]

/-- Pool-low is evaluated where the free count or the reserve differs from before (R5, R6). -/
theorem poolLow_withFlags (f : State → State) (s : State) :
    (withFlags f s).poolLow =
      if (f s).free = s.free ∧ (f s).poolReserve = s.poolReserve then (f s).poolLow
      else decide ((f s).free ≤ (f s).poolReserve.toNat) := by
  obtain ⟨ports, flow, h⟩ := foldl_evalCongestion_frame s allPorts (f s)
  rw [withFlags, poolLow_evalPoolLow, h]

/-- FLOW is marked by the congestion flags and by pool-low (R5, R13). -/
theorem flowPending_withFlags (f : State → State) (s : State) :
    (withFlags f s).flowPending =
      ((f s).flowPending || (allPorts.any fun p => marksFlow (s.port p) ((f s).port p)) ||
        decide (¬ ((f s).free = s.free ∧ (f s).poolReserve = s.poolReserve) ∧
          (withFlags f s).poolLow ≠ s.poolLow)) := by
  have hflow := flowPending_foldl_evalCongestion s allPorts (by decide) (f s)
  obtain ⟨ports, flow, h⟩ := foldl_evalCongestion_frame s allPorts (f s)
  rw [withFlags, flowPending_evalPoolLow, hflow, h]

/-- Settles O30: the flags at the end of an event, from the evaluation of each port and of
pool-low. -/
theorem flagEvaluation : Obligations.FlagEvaluation := by
  intro f s t g hg ht
  rw [hg, ht]
  refine ⟨fun p => ?_, poolLow_withFlags f s, ?_, withFlags_frame f s⟩
  · rw [port_withFlags, evaluatedPort]
    split
    · rfl
    · rw [congestionOf]
  · rw [flowPending_withFlags]
    simp only [marksFlow, port_withFlags]

/-! ### After pin reset -/

@[simp] theorem port_reset (p : PortNo) : State.reset.port p = resetPort :=
  Vector.getElem_replicate _

@[simp] theorem fence_reset (i : FenceNo) : State.reset.fence i = .free :=
  Vector.getElem_replicate _

theorem tally_reset (t : Tally) : State.reset.tally t = 0 := Vector.getElem_replicate _

/-- Settles O4: every field of the reset state by evaluation, the tables entry by entry. -/
theorem resetValues : Obligations.ResetValues := by
  refine ⟨rfl, rfl, rfl, rfl, rfl, rfl, rfl, rfl, rfl, rfl, port_reset, fence_reset, ?_⟩
  exact ⟨rfl, rfl, rfl, rfl, rfl, rfl, rfl, rfl, rfl, rfl, rfl, rfl, rfl, rfl, rfl, rfl, rfl, rfl,
    tally_reset⟩

/-- Settles O60: after reset every port is CLOSED and empty and every fence entry FREE, so each law
holds of empty queues. -/
theorem resetKeepsTheLaws : Obligations.ResetKeepsTheLaws := by
  have hpool : PoolConserved State.reset := by decide
  have hheld : ReservationsHeld State.reset := by decide
  have hcounts : CountsConsecutive State.reset := by decide
  have hprogress : ProgressAgrees State.reset := by decide
  have hflags : FlagsAgree State.reset :=
    ⟨fun p => by rw [port_reset]; rfl, by decide, rfl⟩
  have hcoherent : Coherent State.reset :=
    ⟨fun p => by rw [portCoherent, port_reset]; rfl,
      fun i => by simp [fenceCoherent, resetPort], rfl⟩
  have hdistinct : BindingsDistinct State.reset := fun p _ hp =>
    absurd (by rw [port_reset]; rfl) hp
  have hserved : BusServed State.reset := ⟨nofun, fun p _ => by rw [port_reset]; rfl⟩
  exact ⟨hpool, hheld, hcounts, hprogress, hflags, hcoherent, hdistinct, hserved⟩

end Sys2Proof.Machine
end

section
/-! PROOF. How operations move items of the port queues: those that leave pool, queues and flags alone
(`SamePool`), and those that only take items out and keep the pool conserved (`Drains`). -/

namespace Sys2Proof.Machine

-- One proof is elaborated at a time: many at once would each hold a thread's stack.
set_option Elab.async false

/-! ### Operations that leave pool and queues alone -/

/-- What the pool laws read of a port record. -/
def Port.poolPart (x : Port) : PortState × OpenParams × List Item × Bool :=
  (x.state, x.params, x.queue, x.congested)

theorem poolPart_eq_iff {x y : Port} :
    y.poolPart = x.poolPart ↔
      y.state = x.state ∧ y.params = x.params ∧ y.queue = x.queue ∧ y.congested = x.congested := by
  simp [Port.poolPart]

/-- Pool, reserve, port states, parameters, queues and flags are the same. -/
structure SamePool (s t : State) : Prop where
  free : t.free = s.free
  poolReserve : t.poolReserve = s.poolReserve
  poolLow : t.poolLow = s.poolLow
  port : ∀ p, (t.port p).poolPart = (s.port p).poolPart

theorem SamePool.refl (s : State) : SamePool s s := ⟨rfl, rfl, rfl, fun _ => rfl⟩

theorem SamePool.trans {s t u : State} (h : SamePool s t) (h' : SamePool t u) : SamePool s u :=
  ⟨h'.free.trans h.free, h'.poolReserve.trans h.poolReserve, h'.poolLow.trans h.poolLow,
    fun p => (h'.port p).trans (h.port p)⟩

/-- A write of fields other than the pool's and the port records. -/
theorem SamePool.of_ports {s t : State} (hports : t.ports = s.ports := by rfl)
    (hfree : t.free = s.free := by rfl) (hreserve : t.poolReserve = s.poolReserve := by rfl)
    (hlow : t.poolLow = s.poolLow := by rfl) : SamePool s t :=
  ⟨hfree, hreserve, hlow, fun p => by rw [State.port, State.port, hports]⟩

theorem SamePool.after_write {s t u : State} (h : SamePool t u)
    (hports : t.ports = s.ports := by rfl) (hfree : t.free = s.free := by rfl)
    (hreserve : t.poolReserve = s.poolReserve := by rfl)
    (hlow : t.poolLow = s.poolLow := by rfl) : SamePool s u :=
  (SamePool.of_ports hports hfree hreserve hlow).trans h

theorem samePool_modPort (p : PortNo) (f : Port → Port) (s : State)
    (h : (f (s.port p)).poolPart = (s.port p).poolPart) : SamePool s (modPort p f s) where
  free := rfl
  poolReserve := rfl
  poolLow := rfl
  port q := by
    rw [port_modPort]
    split
    · subst q; exact h
    · rfl

theorem samePool_foldl {α : Type} (f : State → α → State) (h : ∀ s a, SamePool s (f s a))
    (l : List α) (s : State) : SamePool s (l.foldl f s) := by
  induction l generalizing s with
  | nil => exact .refl s
  | cons a l ih => exact (h s a).trans (ih (f s a))

theorem samePool_stopBusyWait (p : PortNo) (s : State) : SamePool s (stopBusyWait p s) :=
  samePool_modPort _ _ _ rfl

theorem samePool_writeSettled (p : PortNo) (c : Count) (s : State) :
    SamePool s (writeSettled p c s) :=
  (samePool_modPort p (fun x => { x with settled := c, dirty := true }) s rfl).trans .of_ports

theorem samePool_holdIfRunning (c : HoldCause) (s : State) : SamePool s (holdIfRunning c s) := by
  obtain ⟨-, h⟩ | ⟨-, -, h⟩ := holdIfRunning_cases c s
  · rw [h]; exact .of_ports
  · rw [h]; exact .refl s

/-! ### The end of an event -/

theorem samePool_evalScan (s : State) : SamePool s (evalScan s) := by
  obtain h | ⟨-, h⟩ := evalScan_cases s
  · rw [h]; exact .refl s
  · rw [h]; exact .of_ports

theorem samePool_runPending (s : State) : SamePool s (runPending s) := by
  unfold runPending
  split
  · exact .of_ports
  · exact .refl s

theorem samePool_startJob (k : JobKind) (p : PortNo) (s : State) : SamePool s (startJob k p s) := by
  have hmove : ∀ u, SamePool u (movePointer p u) := fun u => by
    unfold movePointer
    split <;> exact .of_ports
  have hstart := (SamePool.of_ports (s := s)).trans (hmove (startSending (.job k) p s))
  unfold startJob
  split
  · exact hstart.trans .of_ports
  · exact hstart.trans .of_ports

theorem samePool_offerJobs (s : State) : SamePool s (offerJobs s) := by
  unfold offerJobs
  split
  · split
    · exact samePool_startJob _ _ s
    · exact .refl s
  · exact SamePool.trans .of_ports (samePool_evalScan _)

theorem samePool_decisionPass (s : State) : SamePool s (decisionPass s) := by
  have hrun := samePool_runPending s
  unfold decisionPass
  dsimp only
  split
  · split
    · split
      · exact hrun.trans .of_ports
      · exact hrun.trans (samePool_offerJobs _)
    · exact (hrun.trans .of_ports).trans (samePool_offerJobs _)
  · exact hrun.trans (samePool_offerJobs _)

theorem samePool_arbitrate (s : State) : SamePool s (arbitrate s) := by
  obtain h | ⟨-, -, h⟩ := arbitrate_cases s
  · rw [h]; exact .refl s
  · rw [h, decision]
    split
    · exact (samePool_decisionPass s).trans (samePool_decisionPass _)
    · exact samePool_decisionPass s

theorem samePool_beginProgress (s : State) : SamePool s (beginProgress s) :=
  (samePool_foldl (fun acc (e : PortNo × Count) => clearDirty acc e.1)
    (fun _ _ => samePool_modPort _ _ _ rfl) (progressEntries s) s).trans .of_ports

theorem samePool_choose (s : State) : SamePool s (choose s) := by
  have hqueue : SamePool s (beginQueueOrProgress s) := by
    unfold beginQueueOrProgress
    split
    · split
      · exact samePool_beginProgress s
      · exact .refl s
    · split
      · exact samePool_beginProgress s
      · exact .of_ports
  unfold choose
  split
  · exact .refl s
  · split
    · exact .of_ports
    · split
      · exact .of_ports
      · split
        · exact .of_ports
        · exact hqueue

/-- The end of an event moves no item and writes no flag (R92, R129, R150). -/
theorem samePool_endEvent (s : State) : SamePool s (endEvent s) :=
  ((samePool_evalScan s).trans (samePool_choose _)).trans
    (((samePool_arbitrate _).trans (samePool_evalScan _)).trans .of_ports)

/-! ### Operations that take items out -/

/-- A port record whose queue holds no more items, of the same parameters; its flag is as it was, or
the port has reached CLOSED with nothing left. -/
structure PortDrains (x y : Port) : Prop where
  length_le : y.queue.length ≤ x.queue.length
  params : y.params = x.params
  flag : ((y.state = .closed ↔ x.state = .closed) ∧ y.congested = x.congested) ∨
    (y.state = .closed ∧ y.queue = [] ∧ y.congested = false)

/-- Items have left queues and their slots have returned (R1, R2, R9). -/
structure Drains (s t : State) : Prop where
  conserved : t.free + occupancies t = s.free + occupancies s
  poolReserve : t.poolReserve = s.poolReserve
  poolLow : t.poolLow = s.poolLow
  port : ∀ p, PortDrains (s.port p) (t.port p)

theorem PortDrains.refl (x : Port) : PortDrains x x := ⟨le_refl _, rfl, .inl ⟨.rfl, rfl⟩⟩

theorem PortDrains.trans {x y z : Port} (h : PortDrains x y) (h' : PortDrains y z) :
    PortDrains x z where
  length_le := h'.length_le.trans h.length_le
  params := h'.params.trans h.params
  flag := by
    obtain ⟨hstate', hflag'⟩ | hempty := h'.flag
    · obtain ⟨hstate, hflag⟩ | ⟨hclosed, hqueue, hclear⟩ := h.flag
      · exact .inl ⟨hstate'.trans hstate, hflag'.trans hflag⟩
      · have hlen : z.queue.length ≤ 0 := by simpa [hqueue] using h'.length_le
        exact .inr ⟨hstate'.mpr hclosed, List.length_eq_zero_iff.mp (Nat.le_zero.mp hlen),
          hflag'.trans hclear⟩
    · exact .inr hempty

theorem Drains.refl (s : State) : Drains s s := ⟨rfl, rfl, rfl, fun _ => .refl _⟩

theorem Drains.trans {s t u : State} (h : Drains s t) (h' : Drains t u) : Drains s u :=
  ⟨h'.conserved.trans h.conserved, h'.poolReserve.trans h.poolReserve, h'.poolLow.trans h.poolLow,
    fun p => (h.port p).trans (h'.port p)⟩

theorem occupancies_congr {s t : State}
    (h : ∀ p, (t.port p).queue.length = (s.port p).queue.length) : occupancies t = occupancies s :=
  congrArg List.sum (List.map_congr_left fun p _ => h p)

theorem SamePool.occupancies_eq {s t : State} (h : SamePool s t) : occupancies t = occupancies s :=
  occupancies_congr fun p => by
    obtain ⟨-, -, hqueue, -⟩ := poolPart_eq_iff.mp (h.port p)
    rw [hqueue]

theorem portDrains_of_poolPart_eq {x y : Port} (h : y.poolPart = x.poolPart) : PortDrains x y := by
  obtain ⟨hstate, hparams, hqueue, hflag⟩ := poolPart_eq_iff.mp h
  exact ⟨by rw [hqueue], hparams, .inl ⟨by rw [hstate], hflag⟩⟩

theorem SamePool.drains {s t : State} (h : SamePool s t) : Drains s t :=
  ⟨by rw [h.free, h.occupancies_eq], h.poolReserve, h.poolLow,
    fun p => portDrains_of_poolPart_eq (h.port p)⟩

/-- A write of fields other than the pool's and the port records. -/
theorem Drains.of_ports {s t : State} (hports : t.ports = s.ports := by rfl)
    (hfree : t.free = s.free := by rfl) (hreserve : t.poolReserve = s.poolReserve := by rfl)
    (hlow : t.poolLow = s.poolLow := by rfl) : Drains s t :=
  (SamePool.of_ports hports hfree hreserve hlow).drains

theorem Drains.after_write {s t u : State} (h : Drains t u) (hports : t.ports = s.ports := by rfl)
    (hfree : t.free = s.free := by rfl) (hreserve : t.poolReserve = s.poolReserve := by rfl)
    (hlow : t.poolLow = s.poolLow := by rfl) : Drains s u :=
  (Drains.of_ports hports hfree hreserve hlow).trans h

theorem Drains.then_write {s t u : State} (h : Drains s t) (hports : u.ports = t.ports := by rfl)
    (hfree : u.free = t.free := by rfl) (hreserve : u.poolReserve = t.poolReserve := by rfl)
    (hlow : u.poolLow = t.poolLow := by rfl) : Drains s u :=
  h.trans (.of_ports hports hfree hreserve hlow)

theorem drains_foldl {α : Type} (f : State → α → State) (h : ∀ s a, Drains s (f s a))
    (l : List α) (s : State) : Drains s (l.foldl f s) := by
  induction l generalizing s with
  | nil => exact .refl s
  | cons a l ih => exact (h s a).trans (ih (f s a))

/-- A change of one port record that leaves its queue alone. -/
theorem drains_modPort (p : PortNo) (f : Port → Port) (s : State)
    (hqueue : (f (s.port p)).queue = (s.port p).queue) (h : PortDrains (s.port p) (f (s.port p))) :
    Drains s (modPort p f s) where
  conserved := by
    rw [modPort_free, occupancies_congr fun q => ?_]
    rw [port_modPort]
    split
    · subst q; rw [hqueue]
    · rfl
  poolReserve := rfl
  poolLow := rfl
  port q := by
    rw [port_modPort]
    split
    · subst q; exact h
    · exact .refl _

theorem drains_setPortState (p : PortNo) (st : PortState) (s : State)
    (h : st = .closed ↔ (s.port p).state = .closed) : Drains s (setPortState p st s) :=
  drains_modPort p _ s rfl ⟨le_refl _, rfl, .inl ⟨h, rfl⟩⟩

/-- A new queue shifts the sum of occupancies by the difference of lengths. -/
theorem occupancies_setQueue (p : PortNo) (q : List Item) (s : State) :
    occupancies (setQueue p q s) + (s.port p).queue.length = occupancies s + q.length := by
  have hother : ∀ r, r ≠ p →
      ((setQueue p q s).port r).queue.length = (s.port r).queue.length := fun r hr => by
    rw [port_setQueue, if_neg hr]
  have hsum := sum_map_update allPorts (by decide) p (mem_allPorts p) _ _ hother
  rwa [port_setQueue, if_pos rfl] at hsum

/-- A queue that grows by no more than the free slots keeps the pool conserved (R1). -/
theorem setQueue_conserved (p : PortNo) (q : List Item) (s : State)
    (h : q.length ≤ s.free + (s.port p).queue.length) :
    (setQueue p q s).free + occupancies (setQueue p q s) = s.free + occupancies s := by
  have hocc := occupancies_setQueue p q s
  rw [free_setQueue]
  omega

theorem drains_setQueue (p : PortNo) (q : List Item) (s : State)
    (h : q.length ≤ (s.port p).queue.length) : Drains s (setQueue p q s) where
  conserved := setQueue_conserved p q s (by omega)
  poolReserve := rfl
  poolLow := rfl
  port r := by
    rw [port_setQueue]
    split
    · subst r; exact ⟨h, rfl, .inl ⟨.rfl, rfl⟩⟩
    · exact .refl _

theorem drains_removeHead (p : PortNo) (s : State) : Drains s (removeHead p s) := by
  obtain ⟨-, h⟩ | ⟨it, rest, hq, h⟩ := removeHead_cases p s
  · rw [h]; exact .refl s
  · rw [h]; exact (drains_setQueue p rest s (by simp [hq])).then_write

theorem drains_settleHead (p : PortNo) (s : State) : Drains s (settleHead p s) := by
  unfold settleHead
  split
  · exact .refl s
  · exact (drains_removeHead p s).trans (samePool_writeSettled _ _ _).drains

theorem drains_setHeadCounters (p : PortNo) (f : Nat → Nat → Nat × Nat) (s : State) :
    Drains s (setHeadCounters p f s) := by
  obtain h | ⟨k, st, d, a, b, rest, hq, h⟩ := setHeadCounters_cases p f s
  · rw [h]; exact .refl s
  · rw [h]; exact drains_setQueue p _ s (by simp [hq])

/-! ### Fences -/

theorem drains_arrive (s : State) : Drains s (arrive s) := by
  refine (samePool_foldl arriveAt (fun u i => ?_) allFences s).drains
  unfold arriveAt
  split
  · exact .refl u
  · exact .of_ports

theorem drains_releaseFence (i : FenceNo) (s : State) : Drains s (releaseFence i s) := by
  have hmember : ∀ stamp u p, Drains u (releaseMember i stamp u p) := fun stamp u p => by
    unfold releaseMember
    split
    · exact (drains_removeHead p u).trans (samePool_writeSettled _ _ _).drains
    · exact (samePool_writeSettled _ _ _).drains
  unfold releaseFence
  split
  · exact .refl s
  · exact (drains_foldl _ (hmember _) _ s).then_write

theorem drains_releaseRounds (n : Nat) (s : State) : Drains s (releaseRounds n s) := by
  induction n generalizing s with
  | zero => exact .refl s
  | succ n ih =>
    unfold releaseRounds
    split
    · exact drains_arrive s
    · exact ((drains_arrive s).trans (drains_releaseFence _ _)).trans (ih _)

theorem drains_settleFences (s : State) : Drains s (settleFences s) := drains_releaseRounds 5 s

theorem drains_removeMarker (i : FenceNo) (s : State) (p : PortNo) :
    Drains s (removeMarker i s p) := by
  have hset := drains_setQueue p ((s.port p).queue.filter fun it => !it.isMarkerOf i) s
    (List.length_filter_le _ _)
  unfold removeMarker
  split
  · exact hset.then_write
  · exact hset

theorem drains_breakFence (p : PortNo) (reason : BreakReason) (s : State) (i : FenceNo) :
    Drains s (breakFence p reason s i) := by
  unfold breakFence
  split
  · exact .refl s
  · exact ((drains_foldl _ (drains_removeMarker i) _ _).trans .of_ports).after_write

/-! ### Discards and closes -/

theorem drains_emptyQueue (p : PortNo) (s : State) : Drains s (emptyQueue p s) := by
  have hkept : (kept s p).length ≤ (s.port p).queue.length := by
    unfold kept
    split
    · exact List.length_take_le' _ _
    · exact Nat.zero_le _
  have hset := drains_setQueue p (kept s p) s hkept
  unfold emptyQueue
  split
  · exact hset.then_write
  · exact hset

theorem drains_discardQueue (p : PortNo) (reason : BreakReason) (s : State) :
    Drains s (discardQueue p reason s) :=
  (drains_emptyQueue p s).trans (drains_foldl _ (drains_breakFence p reason) _ _)

theorem drains_modClosing (p : PortNo) (f : Closing → Closing) (s : State) :
    Drains s (modClosing p f s) := by
  unfold modClosing
  split
  case h_1 c hc => exact drains_setPortState p _ s (by simp [hc])
  case h_2 => exact .refl s

theorem drains_discardForClose (p : PortNo) (reason : BreakReason) (s : State) :
    Drains s (discardForClose p reason s) :=
  (drains_discardQueue p reason s).trans (drains_modClosing p _ _)

/-- A port reaches CLOSED with its queue empty and its flag clear (R12, R14, R77). -/
theorem drains_closePort (p : PortNo) (cause : ClosedCause) (s : State)
    (hq : (s.port p).queue = []) : Drains s (closePort p cause s) := by
  unfold closePort
  split
  · exact (drains_modPort p
        (fun x => { x with state := .closed, busyWait := none, congested := false }) s rfl
        ⟨le_refl _, rfl, .inr ⟨rfl, hq, rfl⟩⟩).then_write
  · exact .refl s

theorem drains_closeDonePorts (special : Option (PortNo × ClosedCause)) (s : State) :
    Drains s (closeDonePorts special s) := by
  refine drains_foldl _ (fun u p => ?_) allPorts s
  obtain h | ⟨c, cause, -, hq, -, h⟩ := closeIfDone_cases special u p
  · rw [h]; exact .refl u
  · rw [h]; exact drains_closePort p cause u hq

theorem drains_afterHeads (special : Option (PortNo × ClosedCause)) (s : State) :
    Drains s (afterHeads special s) :=
  (drains_settleFences s).trans (drains_closeDonePorts special _)

theorem drains_beginClose (p : PortNo) (mode : CloseMode) (stamp : Count) (s : State)
    (h : (s.port p).state ≠ .closed) : Drains s (beginClose p mode stamp s) :=
  (drains_setPortState p _ (takeReservation s) (by simp [h])).after_write

theorem drains_closeEffect (p : PortNo) (mode : CloseMode) (stamp : Count) (s : State) :
    Drains s (closeEffect p mode stamp s) := by
  unfold closeEffect
  split
  case h_1 h =>
    exact (drains_beginClose p _ _ s (by simp [h])).trans (drains_closeDonePorts _ _)
  case h_2 h =>
    exact ((drains_beginClose p _ _ s (by simp [h])).trans (drains_discardForClose p _ _)).trans
      ((samePool_stopBusyWait p _).drains.trans (drains_afterHeads _ _))
  case h_3 h =>
    exact ((drains_beginClose p _ _ s (by simp [h])).trans (drains_discardForClose p _ _)).trans
      (drains_afterHeads _ _)
  case h_4 =>
    exact ((drains_modClosing p _ s).trans (drains_discardForClose p _ _)).trans
      ((samePool_stopBusyWait p _).drains.trans (drains_afterHeads _ _))
  case h_5 => exact .refl s

/-- TEND acts on a FAULTED port (R84 to R87). -/
theorem drains_tendEffect (p : PortNo) (a : TendAction) (s : State) {cause : FaultCause}
    (h : (s.port p).state = .faulted cause) : Drains s (tendEffect p a s) := by
  have hopen : Drains s (setPortState p .opened s) := drains_setPortState p .opened s (by simp [h])
  have hcall : ∀ t, Drains s t → Drains s (callArbiter t) := fun t h => h.then_write
  unfold tendEffect
  refine hcall _ ?_
  cases a with
  | retry => exact hopen.trans (drains_setHeadCounters p _ _)
  | skip => exact (hopen.trans (drains_settleHead p _)).trans (drains_afterHeads none _)
  | flush => exact (hopen.trans (drains_discardQueue p .flush _)).trans (drains_afterHeads none _)

/-! ### Outcomes of transactions -/

theorem drains_jobFinishes (p : PortNo) (s : State) : Drains s (jobFinishes p s) :=
  (drains_settleHead p s).trans (drains_afterHeads _ _)

theorem drains_jobWaits (p : PortNo) (s : State) : Drains s (jobWaits p s) := by
  unfold jobWaits
  split
  · exact ((drains_removeHead p s).trans (drains_modClosing p _ _)).trans (drains_closeDonePorts _ _)
  · exact .refl s

theorem drains_jobFailsPort (p : PortNo) (cause : FaultCause) (s : State) :
    Drains s (jobFailsPort p cause s) := by
  unfold jobFailsPort
  split
  case h_1 h => exact drains_setPortState p _ s (by simp [h])
  case h_2 =>
    exact ((drains_removeHead p s).trans (drains_discardForClose p _ _)).trans
      (drains_afterHeads _ _)
  case h_3 => exact .refl s

theorem drains_jobFails (k : JobKind) (p : PortNo) (cause : FaultCause) (s : State) :
    Drains s (jobFails k p cause s) :=
  (drains_jobFailsPort p cause _).after_write

theorem drains_attemptFails (k : JobKind) (p : PortNo) (cause : FaultCause) (s : State) :
    Drains s (attemptFails k p cause s) := by
  have hcount : Drains s (setHeadCounters p (fun a b => (a + 1, b)) (dropTransaction s)) :=
    (drains_setHeadCounters p _ _).after_write
  unfold attemptFails
  dsimp only
  split
  · exact hcount.trans (drains_jobFails k p cause _)
  · exact hcount.then_write.trans (drains_jobWaits p _)

theorem drains_pollEnds (s : State) : Drains s (pollEnds s) := by
  unfold pollEnds afterPoll
  split <;> exact .of_ports

theorem drains_pollSilent (s : State) : Drains s (pollSilent s) :=
  (drains_pollEnds _).after_write

theorem drains_deadlineTaken (t : Transaction) (s : State) : Drains s (deadlineTaken t s) := by
  unfold deadlineTaken
  split
  · exact drains_pollSilent s
  · exact (drains_attemptFails _ _ _ _).after_write

theorem drains_badReply (t : Transaction) (s : State) : Drains s (badReply t s) := by
  unfold badReply
  split
  · exact drains_pollSilent s
  · exact (drains_attemptFails _ _ _ _).after_write

theorem drains_replyDone (k : JobKind) (p : PortNo) (data : List Byte) (s : State) :
    Drains s (replyDone k p data s) := by
  refine Drains.trans ?_ (drains_jobFinishes p _)
  split <;> exact .of_ports

theorem drains_replyBusy (k : JobKind) (p : PortNo) (s : State) : Drains s (replyBusy k p s) := by
  have hdrop : Drains s (bump .busBusy (dropTransaction s)) := .of_ports
  have hreturn := (hdrop.trans (drains_setHeadCounters p (fun a b => (a, b + 1)) _)).then_write
    (u := returnReservation _)
  unfold replyBusy
  dsimp only
  split
  · split
    · exact hreturn.trans (drains_jobWaits p _)
    · exact (hreturn.trans (samePool_modPort p _ _ rfl).drains).trans (drains_jobWaits p _)
  · exact hdrop.trans (drains_jobFails k p _ _)

theorem drains_judgeJob (k : JobKind) (t : Transaction) (kind : Byte) (data : List Byte)
    (s : State) : Drains s (judgeJob k t kind data s) := by
  have hbad := drains_badReply t s
  unfold judgeJob
  split
  · exact hbad
  · split
    · exact hbad
    · split
      · exact drains_replyDone k t.port _ s
      · split
        · exact drains_replyBusy k t.port s
        · split
          · split
            · exact (drains_jobFails k t.port _ _).after_write
            · exact hbad
          · exact hbad

theorem drains_judgePoll (t : Transaction) (kind : Byte) (data : List Byte) (s : State) :
    Drains s (judgePoll t kind data s) := by
  have hsilent := drains_pollSilent s
  unfold judgePoll
  split
  · exact hsilent
  · split
    · exact hsilent
    · split
      · exact (drains_pollEnds _).after_write
      · split
        · exact (drains_pollEnds _).after_write
        · exact hsilent

theorem drains_goodTribFrame (address kind : Byte) (data : List Byte) (s : State) :
    Drains s (goodTribFrame address kind data s) := by
  unfold goodTribFrame
  split
  · split
    · exact .of_ports
    · split
      · exact drains_judgeJob _ _ kind data s
      · exact drains_judgePoll _ kind data s
  · exact .of_ports
  · exact .of_ports
  · exact .refl s

theorem drains_damagedTribFrame (address : Option Byte) (s : State) :
    Drains s (damagedTribFrame address s) := by
  unfold damagedTribFrame
  split
  · split
    · split
      · exact drains_badReply _ s
      · exact .refl s
    · split
      · exact drains_deadlineTaken _ s
      · exact .refl s
  · exact .refl s

/-! ### Characters and timers of the pair -/

theorem drains_addressByte (a : Byte) (s : State) : Drains s (addressByte a s) := by
  unfold addressByte
  split
  · split
    · exact .of_ports
    · split
      · exact drains_deadlineTaken _ s
      · exact .refl s
  · exact .refl s

theorem drains_endOfTribFrame (n : Nat) (bytes : List Byte) (s : State) :
    Drains s (endOfTribFrame n bytes s) := by
  unfold endOfTribFrame
  split
  · split
    · exact (drains_goodTribFrame _ _ _ (huntTrib s)).after_write
    · exact (drains_damagedTribFrame _ (huntTrib s)).after_write
  · exact .refl s

theorem drains_tribFrameByte (bytes : List Byte) (s : State) :
    Drains s (tribFrameByte bytes s) := by
  unfold tribFrameByte
  split
  · exact (drains_addressByte _ _).after_write
  · split
    · exact (drains_damagedTribFrame _ (huntTrib s)).after_write
    · exact .of_ports
  · split
    · exact drains_endOfTribFrame _ _ s
    · exact .of_ports
  · exact .of_ports

theorem drains_tribChar (c : LineChar) (s : State) : Drains s (tribChar c s) := by
  unfold tribChar
  split
  · split
    · exact .of_ports
    · exact .refl s
  · split
    · exact (drains_damagedTribFrame _ (huntTrib s)).after_write
    · exact drains_tribFrameByte _ s

theorem drains_tribGapExpires (s : State) : Drains s (tribGapExpires s) := by
  unfold tribGapExpires
  split
  · exact .refl s
  · exact (drains_damagedTribFrame _ (huntTrib s)).after_write

theorem drains_postSent (s : State) : Drains s (postSent s) := by
  unfold postSent
  split
  · exact (drains_jobFinishes _ _).after_write
  · exact .refl s

theorem drains_deadlineExpires (s : State) : Drains s (deadlineExpires s) := by
  unfold deadlineExpires
  split
  · split
    · exact .of_ports
    · exact drains_deadlineTaken _ s
  · exact .refl s

end Sys2Proof.Machine
end

section
/-! PROOF. What a step can do to pool, queues and flags, said once (`PoolStep`): every step is a
sequence of such moves, so a law that each move keeps is kept by every step. -/

namespace Sys2Proof.Machine

-- One proof is elaborated at a time: many at once would each hold a thread's stack.
set_option Elab.async false

/-! ### What a command does, by the frame it brings -/

/-- A command of a host frame is the event of that frame's last byte. -/
theorem exec_of_hostFrame {c : Instr} {f : HostFrame} (hf : hostFrameOf c = some f) (s : State) :
    exec c s = if c.carried then frameEvent f s else .refused .illFormed := by
  cases c <;> cases hf <;> rfl

/-- A command of a good tributary frame is the arrival of that frame. -/
theorem exec_of_goodFrame {c : Instr} {address kind : Byte} {data : List Byte}
    (hf : goodFrameOf c = some (address, kind, data)) (s : State) :
    exec c s =
      if c.carried then .next (tribFrameArrives address kind data s) else .refused .illFormed := by
  cases c <;> cases hf <;> rfl

/-! ### What admission asks for -/

theorem jobVerdict_accept {port : Byte} {s : State} (h : jobVerdict port s = .accept) :
    ∃ p, portOfByte port = some p ∧ (s.port p).admits = true ∧
      (s.port p).queue.length < (s.port p).params.quota.toNat ∧ 1 ≤ s.free := by
  unfold jobVerdict at h
  split at h
  case h_1 => cases h
  case h_2 p hp =>
    split_ifs at h with hopen hquota hfree
    exact ⟨p, hp, by simpa using hopen, Nat.not_le.mp hquota, Nat.one_le_iff_ne_zero.mpr hfree⟩

theorem fenceVerdict_accept {m : PortSet} {s : State} (h : fenceVerdict m s = .accept) :
    (∀ p ∈ members m, (s.port p).admits = true ∧
      (s.port p).queue.length < (s.port p).params.quota.toNat) ∧
    (members m).length ≤ s.free := by
  unfold fenceVerdict at h
  split_ifs at h with hmembers htable hquota hfree hreports
  simp only [Bool.or_eq_true, List.any_eq_true, not_or, not_exists, not_and] at hmembers hquota
  exact ⟨fun p hp => ⟨by simpa using hmembers.2 p hp, by simpa using hquota p hp⟩,
    Nat.not_lt.mp hfree⟩

theorem openVerdict_accept {port : Byte} {params : OpenParams} {s : State}
    (h : openVerdict port params s = .accept) :
    ∃ p, portOfByte port = some p ∧ (s.port p).state = .closed ∧ paramsInRange params = true := by
  unfold openVerdict at h
  split at h
  case h_1 => cases h
  case h_2 p hp =>
    split_ifs at h with hclosed hrange htaken
    exact ⟨p, hp, not_not.mp hclosed, by simpa using hrange⟩

theorem setupVerdict_accept {reserve enable : Byte} (h : setupVerdict reserve enable = .accept) :
    reserve.toNat ≤ 95 := by
  unfold setupVerdict at h
  split_ifs at h with hrange
  simp only [Bool.and_eq_true, decide_eq_true_eq] at hrange
  exact hrange.1

/-! ### What a step does to the pool -/

/-- One move of pool, queues and flags within a step. Where items join, their ports are OPEN or FAULTED
and below quota, and the pool has a slot for each (R55, R58). -/
inductive PoolStep (s : State) : State → Prop where
  | same {t : State} (h : SamePool s t) : PoolStep s t
  | drained (f : State → State) (h : Drains s (f s)) : PoolStep s (withFlags f s)
  | joined (f : State → State) (it : Item) (l : List PortNo) (u : State) (hl : l.Nodup)
      (hroom : ∀ p ∈ l, (s.port p).admits = true ∧
        (s.port p).queue.length < (s.port p).params.quota.toNat)
      (hfree : l.length ≤ s.free) (hu : SamePool s u)
      (hf : Drains (l.foldl (appendItem it) u) (f s)) : PoolStep s (withFlags f s)
  | opened (f : State → State) (p : PortNo) (stamp : Count) (params : OpenParams)
      (hclosed : (s.port p).state = .closed) (hrange : paramsInRange params = true)
      (hf : f s = openPort p stamp params s) : PoolStep s (withFlags f s)
  | reserved (f : State → State) (hreserve : (f s).poolReserve.toNat ≤ 95)
      (hports : (f s).ports = s.ports) (hfree : (f s).free = s.free)
      (hlow : (f s).poolLow = s.poolLow) : PoolStep s (withFlags f s)
  | emptied {t : State} (hports : ∀ p, t.port p = resetPort) (hfree : t.free = Config.poolSlots)
      (hlow : t.poolLow = false)
      (hreserve : t.poolReserve = s.poolReserve ∨ t.poolReserve = Config.resetReserve) :
      PoolStep s t

/-- Moves one after another. -/
abbrev PoolSteps : State → State → Prop := Relation.ReflTransGen PoolStep

theorem SamePool.steps {s t : State} (h : SamePool s t) : PoolSteps s t := .single (.same h)

/-- A write of fields other than the pool's and the port records. -/
theorem PoolSteps.of_ports {s t : State} (hports : t.ports = s.ports := by rfl)
    (hfree : t.free = s.free := by rfl) (hreserve : t.poolReserve = s.poolReserve := by rfl)
    (hlow : t.poolLow = s.poolLow := by rfl) : PoolSteps s t :=
  (SamePool.of_ports hports hfree hreserve hlow).steps

theorem poolSteps_withFlags {f : State → State} {s : State} (h : Drains s (f s)) :
    PoolSteps s (withFlags f s) := .single (.drained f h)

theorem PoolSteps.after_write {s t u : State} (h : PoolSteps t u)
    (hports : t.ports = s.ports := by rfl) (hfree : t.free = s.free := by rfl)
    (hreserve : t.poolReserve = s.poolReserve := by rfl)
    (hlow : t.poolLow = s.poolLow := by rfl) : PoolSteps s u :=
  (PoolSteps.of_ports hports hfree hreserve hlow).trans h

/-! ### Frames of the uplink -/

theorem poolSteps_counted {stamp : Count} {ty : Byte} {verdict : State → Verdict}
    {effect : State → State} {s : State}
    (h : verdict s = .accept → PoolSteps s (withFlags effect s)) :
    PoolSteps s (counted stamp ty verdict effect s) := by
  have hadvance : ∀ u, PoolSteps u (advanceAC u) := fun u => .of_ports
  obtain h' | ⟨-, -, h'⟩ | h' | h' := counted_cases stamp ty verdict effect s
  · rw [h']; exact .of_ports
  · obtain ⟨hv, h''⟩ | ⟨r, -, -, h''⟩ | ⟨d, h''⟩ := admission_cases stamp ty (verdict s) effect s
    · rw [h', h'']; exact (h hv).trans (hadvance _)
    · rw [h', h'']; exact .of_ports
    · rw [h', h'']; exact .of_ports
  · rw [h']; exact .of_ports
  · rw [h']; exact .of_ports

theorem poolSteps_jobEffect {k : JobKind} {stamp : Count} {port : Byte} {data : List Byte}
    {s : State} (h : jobVerdict port s = .accept) :
    PoolSteps s (withFlags (jobEffect k stamp port data) s) := by
  obtain ⟨p, hp, hadmits, hquota, hfree⟩ := jobVerdict_accept h
  refine .single (.joined _ (.job k stamp data 0 0) [p] s (List.nodup_singleton p) ?_ hfree
    (.refl s) ?_)
  · intro q hq
    rw [List.mem_singleton.mp hq]
    exact ⟨hadmits, hquota⟩
  · rw [jobEffect, onPort, hp]; exact .refl _

theorem poolSteps_placeFence {stamp : Count} {m : PortSet} {s : State}
    (h : fenceVerdict m s = .accept) : PoolSteps s (withFlags (placeFence stamp m) s) := by
  obtain ⟨hroom, hfree⟩ := fenceVerdict_accept h
  cases hi : freeFence s with
  | none => exact poolSteps_withFlags (by rw [placeFence, hi]; exact .refl s)
  | some i =>
    refine .single (.joined _ (.marker stamp i) (members m)
      (takeReservation (setFence i (.gathering ⟨stamp, m, 0#16⟩) s)) (nodup_members m) hroom hfree
      .of_ports ?_)
    rw [placeFence, hi]
    exact drains_settleFences _

theorem poolSteps_openPort {port : Byte} {stamp : Count} {params : OpenParams} {s : State}
    (h : openVerdict port params s = .accept) :
    PoolSteps s (withFlags (onPort port fun p s => openPort p stamp params s) s) := by
  obtain ⟨p, hp, hclosed, hrange⟩ := openVerdict_accept h
  exact .single (.opened _ p stamp params hclosed hrange (by rw [onPort, hp]))

theorem drains_closeFrameEffect (stamp : Count) (port mode : Byte) (s : State) :
    Drains s (closeFrameEffect stamp port mode s) := by
  unfold closeFrameEffect
  split
  · exact .refl s
  · unfold onPort
    split
    · exact .refl s
    · exact drains_closeEffect _ _ stamp s

theorem writeScanEnable_eq (on : Bool) (s : State) :
    writeScanEnable on s =
      { s with
        scanEnable := (writeScanEnable on s).scanEnable
        scan := (writeScanEnable on s).scan
        nextIndex := (writeScanEnable on s).nextIndex
        alternation := (writeScanEnable on s).alternation
        decisionDue := (writeScanEnable on s).decisionDue } := by
  unfold writeScanEnable
  split
  · rfl
  · split <;> rfl

theorem poolSteps_setupEffect {code reserve enable : Byte} {s : State}
    (h : setupVerdict reserve enable = .accept) :
    PoolSteps s (withFlags (setupEffect code reserve enable) s) := by
  refine .single (.reserved _ ?_ ?_ ?_ ?_)
  · rw [setupEffect, writeScanEnable_eq]; exact setupVerdict_accept h
  · rw [setupEffect, writeScanEnable_eq]
  · rw [setupEffect, writeScanEnable_eq]
  · rw [setupEffect, writeScanEnable_eq]

theorem poolSteps_tend (port action : Byte) (s : State) : PoolSteps s (tend port action s) := by
  unfold tend
  split
  · split
    case h_1 h => exact poolSteps_withFlags (drains_tendEffect _ _ s h)
    case h_2 => exact .of_ports
  · exact .of_ports

theorem samePool_answerQuery (tag kind argHi argLo : Byte) (s : State) :
    SamePool s (answerQuery tag kind argHi argLo s) := by
  unfold answerQuery
  split
  · exact .of_ports
  · split <;> exact .of_ports
  · split <;> exact .of_ports
  · split
    · exact .of_ports
    · split <;> exact .of_ports
  · exact .of_ports
  · exact .of_ports

theorem samePool_answerRecall (rc : Count) (s : State) : SamePool s (answerRecall rc s) := by
  unfold answerRecall
  split <;> exact .of_ports

theorem samePool_forSlot {f : State → State} {s : State} (h : SamePool s (f s)) :
    SamePool s (forSlot f s) := by
  unfold forSlot
  split
  · exact .of_ports
  · exact h

theorem samePool_resume (mode : Byte) (count : Count) (s : State) :
    SamePool s (resume mode count s) := by
  unfold resume
  split <;> exact .of_ports

theorem poolStep_restartEffect (s : State) : PoolStep s (restartEffect s) := by
  refine .emptied (fun p => Vector.getElem_replicate _) rfl rfl (.inl ?_)
  unfold restartEffect
  cases s.stream <;> rfl

theorem poolSteps_serve (f : HostFrame) (s : State) : PoolSteps s (serve f s) := by
  match f with
  | .job k stamp port data => exact poolSteps_counted poolSteps_jobEffect
  | .fence stamp m => exact poolSteps_counted poolSteps_placeFence
  | .mark stamp echo =>
    refine poolSteps_counted fun _ => poolSteps_withFlags ?_
    unfold markEffect
    split
    · exact .of_ports
    · exact .refl s
  | .openPort stamp port params => exact poolSteps_counted poolSteps_openPort
  | .close stamp port mode =>
    exact poolSteps_counted fun _ =>
      poolSteps_withFlags (drains_closeFrameEffect stamp port mode s)
  | .setup stamp code reserve enable =>
    exact poolSteps_counted (verdict := fun _ => setupVerdict reserve enable) poolSteps_setupEffect
  | .fill => exact .refl
  | .resume mode count => exact (samePool_resume mode count s).steps
  | .restart => exact .single (poolStep_restartEffect s)
  | .tend port action => exact poolSteps_tend port action s
  | .query tag kind argHi argLo =>
    exact (samePool_forSlot (samePool_answerQuery tag kind argHi argLo s)).steps
  | .recall rc => exact (samePool_forSlot (samePool_answerRecall rc s)).steps

theorem poolSteps_acceptFrame (f : HostFrame) (s : State) : PoolSteps s (acceptFrame f s) :=
  (poolSteps_serve f (frameReceived s)).after_write

/-! ### Characters and timers of the uplink -/

theorem samePool_damagedNotice (s : State) : SamePool s (damagedNotice s) :=
  (samePool_holdIfRunning .check (bump .checkErr s)).after_write

theorem poolSteps_acceptBody (body : List Byte) (s : State) : PoolSteps s (acceptBody body s) := by
  unfold acceptBody
  split
  · exact poolSteps_acceptFrame _ s
  · exact (samePool_holdIfRunning .malformed (bump .malformed (frameReceived s))).steps.after_write

theorem samePool_huntByte (b : Byte) (ferr : Bool) (s : State) : SamePool s (huntByte b ferr s) := by
  unfold huntByte
  split <;> exact .of_ports

theorem poolSteps_collectByte (len : Byte) (bytes : List Byte) (s : State) :
    PoolSteps s (collectByte len bytes s) := by
  unfold collectByte
  split
  · unfold endOfFrame
    split
    · exact (poolSteps_acceptBody _ (huntUplink s)).after_write
    · exact (samePool_damagedNotice (huntUplink s)).steps.after_write
  · exact .of_ports

theorem poolSteps_uplinkChar (b : Byte) (ferr : Bool) (s : State) :
    PoolSteps s (uplinkChar b ferr s) := by
  unfold uplinkChar
  split
  · exact (samePool_huntByte b ferr s).steps
  · split
    · exact (samePool_huntByte b ferr (bump .noise s)).steps.after_write
    · exact .of_ports
  · split
    · exact (samePool_damagedNotice (huntUplink s)).steps.after_write
    · exact poolSteps_collectByte _ _ s

theorem samePool_tGapExpires (s : State) : SamePool s (tGapExpires s) := by
  unfold tGapExpires
  split
  · exact .refl s
  · exact .of_ports
  · exact (samePool_damagedNotice (huntUplink s)).after_write

theorem samePool_silenceExpires (s : State) : SamePool s (silenceExpires s) :=
  SamePool.trans .of_ports (samePool_holdIfRunning .silence _)

/-! ### Events -/

theorem poolSteps_event {f : State → State} {s : State} (h : PoolSteps s (f s)) :
    PoolSteps s (event f s) := by
  obtain ⟨-, h'⟩ | ⟨-, h'⟩ := event_cases f s
  · rw [h']
  · rw [h']; exact h.trans (samePool_endEvent _).steps

theorem poolSteps_eventIf {occurs : State → Bool} {f : State → State} {s : State}
    (h : PoolSteps s (f s)) : PoolSteps s (eventIf occurs f s) := by
  obtain h' | ⟨-, -, h'⟩ := eventIf_cases occurs f s
  · rw [h']
  · rw [h']; exact h.trans (samePool_endEvent _).steps

theorem poolSteps_tribCharEvent (c : LineChar) (s : State) : PoolSteps s (tribCharEvent c s) :=
  poolSteps_eventIf (poolSteps_withFlags (drains_tribChar c s))

theorem poolSteps_tribFrameArrives (address kind : Byte) (data : List Byte) (s : State) :
    PoolSteps s (tribFrameArrives address kind data s) := by
  have hgood : ∀ u, PoolSteps u
      (withFlags (fun s => goodTribFrame address kind data (huntTrib s)) u) := fun u =>
    poolSteps_withFlags (drains_goodTribFrame address kind data (huntTrib u)).after_write
  unfold tribFrameArrives
  split
  · exact (poolSteps_tribCharEvent _ s).trans (poolSteps_eventIf (hgood _))
  · exact poolSteps_eventIf (hgood s)

theorem poolSteps_foldl {α : Type} (f : State → α → State) (h : ∀ s a, PoolSteps s (f s a))
    (l : List α) (s : State) : PoolSteps s (l.foldl f s) := by
  induction l generalizing s with
  | nil => exact .refl
  | cons a l ih => exact (h s a).trans (ih (f s a))

theorem samePool_commandSent (s : State) : SamePool s (commandSent s) := by
  unfold commandSent
  split
  · exact .of_ports
  · exact .refl s

theorem samePool_releasePair (s : State) : SamePool s (releasePair s) := by
  unfold releasePair
  split
  · exact .of_ports
  · exact .refl s

theorem poolStep_pinReset (rate : Rate) (held : Bool) (s : State) :
    PoolStep s (pinReset rate held s) :=
  .emptied (fun p => port_reset p) rfl rfl (.inr rfl)

/-! ### Commands -/

/-- Every next state of the outcome is reached by moves of the pool. -/
def PoolAnswer (s : State) (o : Host.Outcome State Fault Refusal) : Prop :=
  ∀ t, o = .next t → PoolSteps s t

theorem poolAnswer_next {s u : State} (h : PoolSteps s u) : PoolAnswer s (.next u) :=
  fun _ ht => Host.Outcome.next.inj ht ▸ h

theorem poolAnswer_carried {s u : State} {carried : Bool} (h : PoolSteps s u) :
    PoolAnswer s (if carried then .next u else .refused .illFormed) := by
  split
  · exact poolAnswer_next h
  · exact fun t ht => by cases ht

/-- A command that brings no whole frame: a character, the end of a frame, a timer or a pin. -/
theorem poolAnswer_exec_of_noFrame {c : Instr} (hhost : hostFrameOf c = none)
    (hgood : goodFrameOf c = none) (s : State) : PoolAnswer s (exec c s) := by
  cases c with
  | noise byte ferr => exact poolAnswer_next (poolSteps_event (poolSteps_uplinkChar byte ferr s))
  | outOfRangeLen byte ferr =>
    exact poolAnswer_next (poolSteps_event (poolSteps_uplinkChar byte ferr s))
  | framingError byte => exact poolAnswer_next (poolSteps_event (poolSteps_uplinkChar byte true s))
  | tgapExpiry => exact poolAnswer_next (poolSteps_eventIf (samePool_tGapExpires s).steps)
  | damagedFrame body crc =>
    unfold exec execDamagedFrame
    refine poolAnswer_carried (poolSteps_event ?_)
    split
    · exact (poolSteps_acceptBody body (huntUplink s)).after_write
    · exact (samePool_damagedNotice (huntUplink s)).steps.after_write
  | malformedFrame body =>
    exact poolAnswer_carried (poolSteps_event (poolSteps_acceptBody body s))
  | silenceTimerExpiry =>
    exact poolAnswer_next (poolSteps_eventIf (samePool_silenceExpires s).steps)
  | endOfTransmission => exact poolAnswer_next (poolSteps_eventIf .of_ports)
  | sendEndOfSending =>
    exact poolAnswer_next (poolSteps_eventIf (poolSteps_withFlags (drains_postSent s)))
  | commandEndOfSending => exact poolAnswer_next (poolSteps_eventIf (samePool_commandSent s).steps)
  | pollEndOfSending => exact poolAnswer_next (poolSteps_eventIf (samePool_commandSent s).steps)
  | deadlineMet address =>
    cases address with
    | none => exact poolAnswer_next (poolSteps_tribCharEvent _ s)
    | some a =>
      refine poolAnswer_next (Relation.ReflTransGen.trans ?_ (poolSteps_tribCharEvent _ _))
      split
      · exact .refl
      · exact poolSteps_tribCharEvent _ s
  | tributaryDamagedFrame chars =>
    exact poolAnswer_next (poolSteps_foldl _ (fun u c => poolSteps_tribCharEvent c u) chars s)
  | tributaryCharacterGapExpiry =>
    exact poolAnswer_next (poolSteps_eventIf (poolSteps_withFlags (drains_tribGapExpires s)))
  | deadlineExpiry =>
    exact poolAnswer_next (poolSteps_eventIf (poolSteps_withFlags (drains_deadlineExpires s)))
  | busyWaitExpiry p =>
    exact poolAnswer_next
      (poolSteps_eventIf ((samePool_stopBusyWait p s).trans .of_ports).steps)
  | tquietExpiry => exact poolAnswer_next (poolSteps_eventIf .of_ports)
  | abandonedCharacterEnd =>
    exact poolAnswer_next (poolSteps_eventIf (samePool_releasePair s).steps)
  | attnChange asserted =>
    refine poolAnswer_next ?_
    split
    · exact .of_ports
    · exact poolSteps_eventIf .of_ports
  | resetAsserted => exact poolAnswer_next (.single (poolStep_pinReset _ true s))
  | resetReleased rate1 rate0 =>
    exact poolAnswer_next
      (.tail (.single (poolStep_pinReset _ false s)) (.same (samePool_endEvent _)))
  | replyDone | replyBusy | replyRefused | replyEvent | replyNone | tributaryOtherFrame => cases hgood
  | _ => cases hhost

theorem poolAnswer_exec (c : Instr) (s : State) : PoolAnswer s (exec c s) := by
  cases hhost : hostFrameOf c with
  | some f =>
    rw [exec_of_hostFrame hhost]
    exact poolAnswer_carried (poolSteps_event (poolSteps_acceptFrame f s))
  | none =>
    cases hgood : goodFrameOf c with
    | some frame =>
      obtain ⟨address, kind, data⟩ := frame
      rw [exec_of_goodFrame hgood]
      exact poolAnswer_carried (poolSteps_tribFrameArrives address kind data s)
    | none => exact poolAnswer_exec_of_noFrame hhost hgood s

/-- Every step is a sequence of moves of the pool. -/
theorem poolSteps_step {s t : State} (h : step s = .next t) : PoolSteps s t := by
  unfold step at h
  split at h
  · rw [Host.Outcome.next.inj h]
  · exact (poolAnswer_exec _ _ t h).after_write

/-- A law that each move keeps is kept by every step. -/
theorem step_keeps_of_poolStep {P : State → Prop} (hP : ∀ s t, PoolStep s t → P s → P t)
    {s t : State} (hs : P s) (h : step s = .next t) : P t := by
  have hsteps := poolSteps_step h
  clear h
  induction hsteps with
  | refl => exact hs
  | tail _ hstep ih => exact hP _ _ hstep ih

end Sys2Proof.Machine
end

section
/-! PROOF. The two laws of pool and flags, kept by every move of the pool and so by every step. -/

namespace Sys2Proof.Machine

-- One proof is elaborated at a time: many at once would each hold a thread's stack.
set_option Elab.async false

/-! ### Items that join -/

theorem port_appendItem (it : Item) (s : State) (p q : PortNo) :
    (appendItem it s p).port q =
      if q = p then { s.port p with queue := (s.port p).queue ++ [it] } else s.port q := by
  obtain ⟨hempty, h⟩ | ⟨-, h⟩ := appendItem_cases it s p
  · rw [h, port_callArbiter, port_setQueue, hempty, List.nil_append]
  · rw [h, port_setQueue]

theorem port_foldl_appendItem (it : Item) (l : List PortNo) (hl : l.Nodup) (s : State)
    (q : PortNo) :
    (l.foldl (appendItem it) s).port q =
      if q ∈ l then { s.port q with queue := (s.port q).queue ++ [it] } else s.port q := by
  induction l generalizing s with
  | nil => simp
  | cons p l ih =>
    obtain ⟨hp, hl⟩ := List.nodup_cons.mp hl
    rw [List.foldl_cons, ih hl, port_appendItem]
    by_cases hq : q = p
    · subst hq; simp [hp]
    · simp [hq]

theorem appendItem_frame (it : Item) (s : State) (p : PortNo) :
    (appendItem it s p).poolReserve = s.poolReserve ∧ (appendItem it s p).poolLow = s.poolLow := by
  unfold appendItem
  dsimp only
  split <;> exact ⟨rfl, rfl⟩

theorem foldl_appendItem_frame (it : Item) (l : List PortNo) (s : State) :
    (l.foldl (appendItem it) s).poolReserve = s.poolReserve ∧
      (l.foldl (appendItem it) s).poolLow = s.poolLow := by
  induction l generalizing s with
  | nil => exact ⟨rfl, rfl⟩
  | cons p l ih =>
    obtain ⟨hreserve, hlow⟩ := ih (appendItem it s p)
    obtain ⟨hreserve', hlow'⟩ := appendItem_frame it s p
    exact ⟨hreserve.trans hreserve', hlow.trans hlow'⟩

/-- An item that joins takes one slot (R2, R8). -/
theorem appendItem_slot (it : Item) (s : State) (p : PortNo) (h : 1 ≤ s.free) :
    (appendItem it s p).free + 1 = s.free ∧
      (appendItem it s p).free + occupancies (appendItem it s p) = s.free + occupancies s := by
  have hset := setQueue_conserved p ((s.port p).queue ++ [it]) s
    (by rw [List.length_append, List.length_singleton]; omega)
  have hfree := free_setQueue p ((s.port p).queue ++ [it]) s
  rw [List.length_append, List.length_singleton] at hfree
  unfold appendItem
  dsimp only
  split
  · exact ⟨by rw [callArbiter_free]; omega, hset⟩
  · exact ⟨by omega, hset⟩

theorem foldl_appendItem_conserved (it : Item) (l : List PortNo) (s : State)
    (h : l.length ≤ s.free) :
    (l.foldl (appendItem it) s).free + occupancies (l.foldl (appendItem it) s) =
      s.free + occupancies s := by
  induction l generalizing s with
  | nil => rfl
  | cons p l ih =>
    rw [List.length_cons] at h
    obtain ⟨hslot, hsum⟩ := appendItem_slot it s p (by omega)
    exact (ih (appendItem it s p) (by omega)).trans hsum

/-! ### The pool is conserved -/

theorem occupancies_withFlags (f : State → State) (s : State) :
    occupancies (withFlags f s) = occupancies (f s) :=
  occupancies_congr fun p => by rw [port_withFlags, evaluatedPort_queue]

theorem port_openPort (p : PortNo) (stamp : Count) (params : OpenParams) (s : State) (q : PortNo) :
    (openPort p stamp params s).port q =
      if q = p then
        { s.port p with
          state := .opened, params := params, busyWait := none, settled := stamp, dirty := true }
      else s.port q := by
  rw [openPort, port_writeSettled, port_modPort, port_modPort]
  split <;> simp

/-- A move of the pool keeps free slots plus occupancies, or empties every queue (R1, R22). -/
theorem poolStep_conserved {s t : State} (h : PoolStep s t) :
    t.free + occupancies t = s.free + occupancies s ∨
      t.free + occupancies t = Config.poolSlots := by
  cases h with
  | same h => exact .inl h.drains.conserved
  | drained f h => left; rw [free_withFlags, occupancies_withFlags, h.conserved]
  | joined f it l u hl hroom hfree hu hf =>
    left
    rw [free_withFlags, occupancies_withFlags, hf.conserved,
      foldl_appendItem_conserved it l u (hu.free.symm ▸ hfree), hu.drains.conserved]
  | opened f p stamp params hclosed hrange hf =>
    left
    have hocc : occupancies (openPort p stamp params s) = occupancies s :=
      occupancies_congr fun q => by
        rw [port_openPort]
        split
        · subst q; rfl
        · rfl
    rw [free_withFlags, occupancies_withFlags, hf, hocc]
    rfl
  | reserved f hreserve hports hfree hlow =>
    left
    rw [free_withFlags, occupancies_withFlags, hfree,
      occupancies_congr (s := s) fun p => by rw [State.port, State.port, hports]]
  | emptied hports hfree hlow hreserve =>
    right
    rw [hfree, occupancies_congr (s := State.reset) fun p => by rw [hports, port_reset]]
    rfl

/-- Settles O52: each move of the pool keeps the sum, or brings it to 96 anew. -/
theorem stepKeepsPool : Obligations.StepKeepsPool := by
  intro s t hs h
  refine step_keeps_of_poolStep (P := fun s => PoolConserved s) (fun u v huv hu => ?_) hs h
  obtain hkept | hreset := poolStep_conserved huv
  · exact hkept.trans hu
  · exact hreset

/-! ### Occupancies and flags stay in bounds -/

/-- The congestion flag is one that the marks allow (R13). -/
def marksAllow (x : Port) : Prop :=
  if x.congested then x.params.lowMark.toNat < x.queue.length
  else x.queue.length < x.params.highMark.toNat

theorem portInBounds_closed {x : Port} (h : x.state = .closed) :
    portInBounds x = true ↔ x.queue = [] ∧ x.congested = false := by
  simp [portInBounds, h]

theorem portInBounds_open {x : Port} (h : x.state ≠ .closed) :
    portInBounds x = true ↔
      paramsInRange x.params = true ∧ x.queue.length ≤ x.params.quota.toNat ∧ marksAllow x := by
  have hmarks : (if x.congested then decide (x.params.lowMark.toNat < x.queue.length)
      else decide (x.queue.length < x.params.highMark.toNat)) = true ↔ marksAllow x := by
    unfold marksAllow
    split <;> exact decide_eq_true_iff
  unfold portInBounds
  split
  · exact absurd ‹_› h
  · rw [Bool.and_eq_true, Bool.and_eq_true, decide_eq_true_iff, and_assoc, hmarks]

theorem marks_of_paramsInRange {x : OpenParams} (h : paramsInRange x = true) :
    1 ≤ x.highMark.toNat ∧ x.lowMark.toNat < x.highMark.toNat := by
  simp only [paramsInRange, Bool.and_eq_true, decide_eq_true_eq] at h
  omega

/-- The evaluated flag is one that the marks allow (R13). -/
theorem marksAllow_congestionOf (x : Port) (h : paramsInRange x.params = true) :
    marksAllow { x with congested := congestionOf x } := by
  obtain ⟨-, hlow⟩ := marks_of_paramsInRange h
  unfold congestionOf
  split
  case isTrue hhigh => exact hlow.trans_le hhigh
  case isFalse hhigh =>
    split
    case isTrue hle => exact hle.trans_lt hlow
    case isFalse hgt =>
      unfold marksAllow
      split
      · exact Nat.not_le.mp hgt
      · exact Nat.not_le.mp hhigh

/-- What an event may make of a port record before the flags are evaluated: a CLOSED port is empty
and not congested, any other is within its quota and has either a flag that the marks allow or an
occupancy that the event has changed. -/
structure AwaitsFlags (before after : Port) : Prop where
  closed : after.state = .closed → after.queue = [] ∧ after.congested = false
  opened : after.state ≠ .closed →
    paramsInRange after.params = true ∧ after.queue.length ≤ after.params.quota.toNat ∧
      (after.queue.length = before.queue.length → marksAllow after)

theorem AwaitsFlags.inBounds {x y : Port} (h : AwaitsFlags x y) :
    portInBounds (evaluatedPort x y) = true := by
  by_cases hstate : y.state = .closed
  · rw [evaluatedPort, if_pos (.inr hstate)]
    exact (portInBounds_closed hstate).mpr (h.closed hstate)
  · obtain ⟨hrange, hquota, hmarks⟩ := h.opened hstate
    by_cases hlen : y.queue.length = x.queue.length
    · rw [evaluatedPort, if_pos (.inl hlen)]
      exact (portInBounds_open hstate).mpr ⟨hrange, hquota, hmarks hlen⟩
    · rw [evaluatedPort, if_neg (not_or_intro hlen hstate)]
      exact (portInBounds_open (x := { y with congested := congestionOf y }) hstate).mpr
        ⟨hrange, hquota, marksAllow_congestionOf y hrange⟩

/-- A port record in the course of an event that opens no port: its flag is the one before the event,
or the port has reached CLOSED. -/
structure MidEvent (before now : Port) : Prop where
  closed : now.state = .closed → now.queue = [] ∧ now.congested = false
  opened : now.state ≠ .closed →
    before.state ≠ .closed ∧ now.params = before.params ∧ now.congested = before.congested ∧
      now.queue.length ≤ now.params.quota.toNat

theorem MidEvent.of_inBounds {x : Port} (h : portInBounds x = true) : MidEvent x x where
  closed hstate := (portInBounds_closed hstate).mp h
  opened hstate := by
    obtain ⟨-, hquota, -⟩ := (portInBounds_open hstate).mp h
    exact ⟨hstate, rfl, rfl, hquota⟩

theorem MidEvent.drains {x y z : Port} (h : MidEvent x y) (h' : PortDrains y z) :
    MidEvent x z where
  closed hstate := by
    obtain ⟨hiff, hflag⟩ | ⟨-, hempty⟩ := h'.flag
    · obtain ⟨hqueue, hclear⟩ := h.closed (hiff.mp hstate)
      have hlen : z.queue.length ≤ 0 := by simpa [hqueue] using h'.length_le
      exact ⟨List.length_eq_zero_iff.mp (Nat.le_zero.mp hlen), hflag.trans hclear⟩
    · exact hempty
  opened hstate := by
    obtain ⟨hiff, hflag⟩ | ⟨hclosed, -⟩ := h'.flag
    · obtain ⟨hbefore, hparams, hcongested, hquota⟩ := h.opened (mt hiff.mpr hstate)
      exact ⟨hbefore, h'.params.trans hparams, hflag.trans hcongested,
        h'.params.symm ▸ h'.length_le.trans hquota⟩
    · exact absurd hclosed hstate

theorem MidEvent.append {x y : Port} (it : Item) (h : MidEvent x y) (hopen : y.state ≠ .closed)
    (hquota : y.queue.length < y.params.quota.toNat) :
    MidEvent x { y with queue := y.queue ++ [it] } where
  closed hstate := absurd hstate hopen
  opened hstate := by
    obtain ⟨hbefore, hparams, hcongested, -⟩ := h.opened hstate
    exact ⟨hbefore, hparams, hcongested, by simpa using hquota⟩

/-- A port in bounds before an event that opens no port awaits the evaluation of its flag. -/
theorem MidEvent.awaitsFlags {x y : Port} (hx : portInBounds x = true) (h : MidEvent x y) :
    AwaitsFlags x y where
  closed := h.closed
  opened hstate := by
    obtain ⟨hbefore, hparams, hcongested, hquota⟩ := h.opened hstate
    obtain ⟨hrange, -, hmarks⟩ := (portInBounds_open hbefore).mp hx
    refine ⟨hparams.symm ▸ hrange, hquota, fun hlen => ?_⟩
    unfold marksAllow at hmarks ⊢
    rwa [hcongested, hparams, hlen]

/-- The evaluation at the end of an event brings the flags into agreement. -/
theorem flagsAgree_withFlags {f : State → State} {s : State} (hs : FlagsAgree s)
    (hports : ∀ p, AwaitsFlags (s.port p) ((f s).port p))
    (hreserve : (f s).poolReserve.toNat ≤ 95) (hlow : (f s).poolLow = s.poolLow) :
    FlagsAgree (withFlags f s) := by
  obtain ⟨-, -, hagree⟩ := hs
  refine ⟨fun p => ?_, ?_, ?_⟩
  · rw [port_withFlags]; exact (hports p).inBounds
  · rw [poolReserve_withFlags]; exact hreserve
  · rw [poolLow_withFlags, free_withFlags, poolReserve_withFlags]
    split
    case isTrue hsame => rw [hlow, hagree, hsame.1, hsame.2]
    case isFalse => rfl

theorem state_ne_closed_of_admits {x : Port} (h : x.admits = true) : x.state ≠ .closed := by
  intro hclosed
  simp [Port.admits, hclosed] at h

theorem portInBounds_congr {x y : Port} (h : y.poolPart = x.poolPart) :
    portInBounds y = portInBounds x := by
  obtain ⟨hstate, hparams, hqueue, hflag⟩ := poolPart_eq_iff.mp h
  rw [portInBounds, portInBounds, hstate, hparams, hqueue, hflag]

/-- A port that opens is empty and not congested, whatever its parameters in range (R12, R71). -/
theorem awaitsFlags_openPort {s : State} (p : PortNo) (stamp : Count) {params : OpenParams}
    (hbounds : ∀ q, portInBounds (s.port q) = true) (hclosed : (s.port p).state = .closed)
    (hrange : paramsInRange params = true) (q : PortNo) :
    AwaitsFlags (s.port q) ((openPort p stamp params s).port q) := by
  rw [port_openPort]
  split
  · subst q
    obtain ⟨hqueue, hclear⟩ := (portInBounds_closed hclosed).mp (hbounds p)
    obtain ⟨hhigh, -⟩ := marks_of_paramsInRange hrange
    refine ⟨nofun, fun _ => ⟨hrange, ?_, fun _ => ?_⟩⟩
    · rw [hqueue]; exact Nat.zero_le _
    · unfold marksAllow
      dsimp only
      rw [hclear, hqueue]
      exact hhigh
  · exact (MidEvent.of_inBounds (hbounds q)).awaitsFlags (hbounds q)

/-- Items join below the quota, so their ports stay within it (R12, R55, R58). -/
theorem midEvent_foldl_appendItem {s u : State} (it : Item) {l : List PortNo} (hl : l.Nodup)
    (hbounds : ∀ q, portInBounds (s.port q) = true)
    (hroom : ∀ p ∈ l, (s.port p).admits = true ∧
      (s.port p).queue.length < (s.port p).params.quota.toNat)
    (hu : SamePool s u) (p : PortNo) :
    MidEvent (s.port p) ((l.foldl (appendItem it) u).port p) := by
  have hmid := (MidEvent.of_inBounds (hbounds p)).drains (portDrains_of_poolPart_eq (hu.port p))
  obtain ⟨hstate, hparams, hqueue, -⟩ := poolPart_eq_iff.mp (hu.port p)
  rw [port_foldl_appendItem it l hl]
  split
  case isTrue hp =>
    obtain ⟨hadmits, hquota⟩ := hroom p hp
    exact hmid.append it (hstate ▸ state_ne_closed_of_admits hadmits)
      (by rw [hqueue, hparams]; exact hquota)
  case isFalse => exact hmid

theorem poolStep_flagsAgree {s t : State} (h : PoolStep s t) (hs : FlagsAgree s) :
    FlagsAgree t := by
  obtain ⟨hbounds, hreserve, hagree⟩ := id hs
  have hmid : ∀ p, MidEvent (s.port p) (s.port p) := fun p => .of_inBounds (hbounds p)
  cases h with
  | same h =>
    refine ⟨fun p => ?_, h.poolReserve ▸ hreserve, ?_⟩
    · rw [portInBounds_congr (h.port p)]; exact hbounds p
    · rw [h.poolLow, h.free, h.poolReserve, hagree]
  | drained f h =>
    exact flagsAgree_withFlags hs
      (fun p => ((hmid p).drains (h.port p)).awaitsFlags (hbounds p))
      (h.poolReserve ▸ hreserve) h.poolLow
  | joined f it l u hl hroom hfree hu hf =>
    obtain ⟨hreserve', hlow'⟩ := foldl_appendItem_frame it l u
    have hjoined := midEvent_foldl_appendItem it hl hbounds hroom hu
    refine flagsAgree_withFlags hs
      (fun p => ((hjoined p).drains (hf.port p)).awaitsFlags (hbounds p)) ?_ ?_
    · rw [hf.poolReserve, hreserve', hu.poolReserve]; exact hreserve
    · rw [hf.poolLow, hlow', hu.poolLow]
  | opened f p stamp params hclosed hrange hf =>
    refine flagsAgree_withFlags hs (fun q => ?_) ?_ ?_
    · rw [hf]; exact awaitsFlags_openPort p stamp hbounds hclosed hrange q
    · rw [hf]; exact hreserve
    · rw [hf]; rfl
  | reserved f hreserve' hports hfree hlow =>
    refine flagsAgree_withFlags hs (fun p => ?_) hreserve' hlow
    have hport : (f s).port p = s.port p := by rw [State.port, State.port, hports]
    rw [hport]
    exact (hmid p).awaitsFlags (hbounds p)
  | emptied hports hfree hlow hreserve' =>
    have hreserve'' : t.poolReserve.toNat ≤ 95 := by
      obtain h | h := hreserve'
      · rw [h]; exact hreserve
      · rw [h]; decide
    refine ⟨fun p => by rw [hports]; rfl, hreserve'', ?_⟩
    rw [hlow, hfree, eq_comm, decide_eq_false_iff_not]
    unfold Config.poolSlots
    omega

/-- Settles O56: each move of the pool keeps the bounds, as the flags are evaluated at its end. -/
theorem stepKeepsFlags : Obligations.StepKeepsFlags := fun _ _ hs h =>
  step_keeps_of_poolStep (P := fun s => FlagsAgree s) (fun _ _ huv => poolStep_flagsAgree huv) hs h

end Sys2Proof.Machine
end

section
/-! PROOF. The whole-queue discard: what the break of one fence leaves field by field, the breaks of
several fences one after another, and the discard as a whole (R15, R18, R20, R120, R121). -/

namespace Sys2Proof.Machine

-- One proof is elaborated at a time: many at once would each hold a thread's stack.
set_option Elab.async false

/-! ### What a discard may write -/

/-- The state `s` with the fields that a discard may write taken from `t`. -/
def State.discardedAs (s t : State) : State :=
  { s with
    ports := t.ports, free := t.free, fences := t.fences, reports := t.reports,
    nextRC := t.nextRC, reservations := t.reservations, decisionDue := t.decisionDue }

theorem discardedAs_trans {s t u : State} (h : t = s.discardedAs t) (h' : u = t.discardedAs u) :
    u = s.discardedAs u :=
  calc
    u = t.discardedAs u := h'
    _ = (s.discardedAs t).discardedAs u := by rw [← h]
    _ = s.discardedAs u := rfl

/-! ### One marker -/

theorem headIsMarker_eq (s : State) (i : FenceNo) (p : PortNo) :
    headIsMarker s i p = (s.port p).queue.head?.any (Item.isMarkerOf i) := by
  unfold headIsMarker
  cases (s.port p).queue <;> rfl

theorem headIsMarker_congr {s t : State} {p : PortNo} (h : t.port p = s.port p) (i : FenceNo) :
    headIsMarker t i p = headIsMarker s i p := by
  rw [headIsMarker_eq, headIsMarker_eq, h]

/-- Removing markers from a queue whose head is none of them leaves the head. -/
theorem head?_filter_not_marker {q : List Item} {i : FenceNo}
    (h : q.head?.any (Item.isMarkerOf i) = false) :
    (q.filter fun it => !it.isMarkerOf i).head? = q.head? := by
  cases q with
  | nil => rfl
  | cons it q =>
    have hit : it.isMarkerOf i = false := h
    rw [List.filter_cons_of_pos (by rw [hit]; rfl)]
    rfl

theorem port_removeMarker (i : FenceNo) (s : State) (p q : PortNo) :
    (removeMarker i s p).port q =
      if q = p then
        { s.port p with queue := (s.port p).queue.filter fun it => !it.isMarkerOf i }
      else s.port q := by
  unfold removeMarker
  dsimp only
  split
  · rw [port_callArbiter, port_setQueue]
  · rw [port_setQueue]

theorem decisionDue_removeMarker (i : FenceNo) (s : State) (p : PortNo) :
    (removeMarker i s p).decisionDue = (s.decisionDue || headIsMarker s i p) := by
  unfold removeMarker
  dsimp only
  split
  case isTrue h => rw [h, Bool.or_true]; rfl
  case isFalse h => rw [Bool.eq_false_iff.mpr h, Bool.or_false]; rfl

/-- Removing a marker writes the port records, the free count and the decision that is due. -/
theorem removeMarker_frame (i : FenceNo) (s : State) (p : PortNo) :
    ∃ ports free due, removeMarker i s p =
      { s with ports := ports, free := free, decisionDue := due } := by
  unfold removeMarker
  dsimp only
  split
  · exact ⟨_, _, _, rfl⟩
  · exact ⟨_, _, s.decisionDue, rfl⟩

/-! ### The markers of one fence -/

theorem port_foldl_removeMarker (i : FenceNo) (l : List PortNo) (hl : l.Nodup) (s : State)
    (q : PortNo) :
    (l.foldl (removeMarker i) s).port q =
      if q ∈ l then
        { s.port q with queue := (s.port q).queue.filter fun it => !it.isMarkerOf i }
      else s.port q := by
  induction l generalizing s with
  | nil => simp
  | cons p l ih =>
    obtain ⟨hp, hl⟩ := List.nodup_cons.mp hl
    rw [List.foldl_cons, ih hl, port_removeMarker]
    by_cases hq : q = p
    · subst hq; simp [hp]
    · simp [hq]

theorem decisionDue_foldl_removeMarker (i : FenceNo) (l : List PortNo) (hl : l.Nodup) (s : State) :
    (l.foldl (removeMarker i) s).decisionDue = (s.decisionDue || l.any (headIsMarker s i)) := by
  induction l generalizing s with
  | nil => simp
  | cons p l ih =>
    obtain ⟨hp, hl⟩ := List.nodup_cons.mp hl
    have hrest : l.any (headIsMarker (removeMarker i s p) i) = l.any (headIsMarker s i) :=
      any_congr_of_mem fun q hq => headIsMarker_congr
        (by rw [port_removeMarker, if_neg (ne_of_mem_of_not_mem hq hp)]) i
    rw [List.foldl_cons, ih hl, decisionDue_removeMarker, hrest, List.any_cons, Bool.or_assoc]

theorem foldl_removeMarker_frame (i : FenceNo) (l : List PortNo) (s : State) :
    ∃ ports free due, l.foldl (removeMarker i) s =
      { s with ports := ports, free := free, decisionDue := due } := by
  induction l generalizing s with
  | nil => exact ⟨s.ports, s.free, s.decisionDue, rfl⟩
  | cons p l ih =>
    obtain ⟨ports, free, due, h⟩ := ih (removeMarker i s p)
    obtain ⟨ports', free', due', h'⟩ := removeMarker_frame i s p
    exact ⟨ports, free, due, by rw [List.foldl_cons, h, h']⟩

/-! ### Reports with consecutive counts -/

/-- Reports of these bodies, with consecutive report counts from `rc` on (R139). -/
def numbered (rc : Count) : List ReportBody → List Report
  | [] => []
  | b :: bodies => ⟨rc, b⟩ :: numbered (rc + 1#16) bodies

theorem map_body_numbered (rc : Count) (bodies : List ReportBody) :
    (numbered rc bodies).map Report.body = bodies := by
  induction bodies generalizing rc with
  | nil => rfl
  | cons b bodies ih => rw [numbered, List.map_cons, ih]

theorem add_ofNat_succ (rc : Count) (n : Nat) :
    rc + BitVec.ofNat 16 (n + 1) = rc + 1#16 + BitVec.ofNat 16 n := by
  rw [Nat.add_comm n 1, BitVec.ofNat_add, BitVec.add_assoc]

theorem getElem?_numbered (rc : Count) (bodies : List ReportBody) (n : Nat) :
    (numbered rc bodies)[n]? = bodies[n]?.map fun b => ⟨rc + BitVec.ofNat 16 n, b⟩ := by
  induction bodies generalizing rc n with
  | nil => rfl
  | cons b bodies ih =>
    cases n with
    | zero => simp [numbered]
    | succ n => rw [numbered, List.getElem?_cons_succ, List.getElem?_cons_succ, ih,
        add_ofNat_succ rc n]

/-- The body of the report of a fence that port `p` breaks (R121); a FREE entry breaks with none. -/
def brokenBody (p : PortNo) (reason : BreakReason) : FenceEntry → Option ReportBody
  | .free => none
  | .gathering g => some (.fence g.stamp g.members (.broken p reason))

/-- The bodies of the reports of fences that port `p` breaks, in this order. -/
def brokenBodies (p : PortNo) (reason : BreakReason) (s : State) (l : List FenceNo) :
    List ReportBody :=
  l.filterMap fun i => brokenBody p reason (s.fence i)

theorem brokenBodies_cons {p : PortNo} {reason : BreakReason} {s : State} {i : FenceNo}
    {b : ReportBody} (h : brokenBody p reason (s.fence i) = some b) (l : List FenceNo) :
    brokenBodies p reason s (i :: l) = b :: brokenBodies p reason s l :=
  List.filterMap_cons_some h

theorem brokenBodies_congr {p : PortNo} {reason : BreakReason} {s t : State} {l : List FenceNo}
    (h : ∀ i ∈ l, t.fence i = s.fence i) : brokenBodies p reason t l = brokenBodies p reason s l :=
  List.filterMap_congr fun i hi => by rw [h i hi]

theorem getElem?_filterMap_of_isSome {α β : Type} {f : α → Option β} {l : List α}
    (h : ∀ a ∈ l, (f a).isSome) (n : Nat) : (l.filterMap f)[n]? = l[n]?.bind f := by
  induction l generalizing n with
  | nil => rfl
  | cons a l ih =>
    obtain ⟨b, hb⟩ := Option.isSome_iff_exists.mp (h a List.mem_cons_self)
    rw [List.filterMap_cons_some hb]
    cases n with
    | zero => exact hb.symm
    | succ n =>
      rw [List.getElem?_cons_succ, List.getElem?_cons_succ,
        ih (fun c hc => h c (List.mem_cons_of_mem a hc))]

/-! ### Breaking fences -/

/-- The entry gathers, and no port but its members and `p` holds a marker of it (R114). -/
def Breakable (p : PortNo) (s : State) (i : FenceNo) : Prop :=
  ∃ g, s.fence i = .gathering g ∧ ∀ q, q ≠ p → g.members.getLsbD q.val = false →
    ∀ it ∈ (s.port q).queue, it.isMarkerOf i = false

theorem Breakable.isSome {p : PortNo} {s : State} {i : FenceNo} (h : Breakable p s i)
    (reason : BreakReason) : (brokenBody p reason (s.fence i)).isSome := by
  obtain ⟨g, hg, -⟩ := h
  rw [hg]; rfl

/-- A queue with the markers of these entries removed (R20). -/
def withoutMarkers (l : List FenceNo) (q : List Item) : List Item :=
  q.filter fun it => l.all fun i => !it.isMarkerOf i

/-- `t` is `s` after port `p` has broken the fences `l`, in this order (R20, R121). -/
structure FencesBroken (p : PortNo) (reason : BreakReason) (l : List FenceNo) (s t : State) :
    Prop where
  port_self : t.port p = s.port p
  port_other : ∀ q, q ≠ p →
    t.port q = { s.port q with queue := withoutMarkers l (s.port q).queue }
  fence : ∀ i, t.fence i = if i ∈ l then .free else s.fence i
  reports : t.reports = s.reports ++ numbered s.nextRC (brokenBodies p reason s l)
  nextRC : t.nextRC = s.nextRC + BitVec.ofNat 16 l.length
  reservations : t.reservations = s.reservations - l.length
  decisionDue : t.decisionDue =
    (s.decisionDue ||
      allPorts.any fun q => decide (q ≠ p) && l.any fun i => headIsMarker s i q)
  frame : t = s.discardedAs t

theorem fencesBroken_nil (p : PortNo) (reason : BreakReason) (s : State) :
    FencesBroken p reason [] s s where
  port_self := rfl
  port_other q _ := by simp [withoutMarkers]
  fence i := by simp
  reports := by simp [numbered, brokenBodies]
  nextRC := by simp
  reservations := rfl
  decisionDue := by simp
  frame := rfl

/-- The queue of a port that holds no marker of the fence is as it was, and so is that of a member with
its marker removed: both are the queue without the fence's markers. -/
theorem port_foldl_removeMarker_members {p : PortNo} {s : State} {i : FenceNo} {m : PortSet}
    (h : ∀ q, q ≠ p → m.getLsbD q.val = false →
      ∀ it ∈ (s.port q).queue, it.isMarkerOf i = false) (q : PortNo) :
    (((members m).filter fun r => r != p).foldl (removeMarker i) s).port q =
      if q = p then s.port q else { s.port q with queue := withoutMarkers [i] (s.port q).queue } := by
  have hone : withoutMarkers [i] (s.port q).queue =
      (s.port q).queue.filter fun it => !it.isMarkerOf i := by simp [withoutMarkers]
  rw [port_foldl_removeMarker i _ ((nodup_members m).filter _), hone]
  by_cases hq : q = p
  · simp [hq]
  · by_cases hm : m.getLsbD q.val = true
    · simp [hq, hm, mem_members]
    · have hnone := h q hq (Bool.eq_false_iff.mpr hm)
      have hself : ((s.port q).queue.filter fun it => !it.isMarkerOf i) = (s.port q).queue :=
        List.filter_eq_self.mpr fun it hit => by rw [hnone it hit]; rfl
      rw [if_neg hq, hself, ite_self]

/-- A member's head that is a marker of the fence calls the arbiter, and no other port's head is one. -/
theorem any_members_headIsMarker {p : PortNo} {s : State} {i : FenceNo} {m : PortSet}
    (h : ∀ q, q ≠ p → m.getLsbD q.val = false →
      ∀ it ∈ (s.port q).queue, it.isMarkerOf i = false) :
    ((members m).filter fun q => q != p).any (headIsMarker s i) =
      allPorts.any fun q => decide (q ≠ p) && [i].any fun j => headIsMarker s j q := by
  have hmember : ∀ q, q ≠ p → headIsMarker s i q = true → m.getLsbD q.val = true := by
    intro q hq hhead
    by_contra hm
    rw [headIsMarker_eq, Option.any_eq_true] at hhead
    obtain ⟨it, hit, hmark⟩ := hhead
    rw [h q hq (Bool.eq_false_iff.mpr hm) it (List.mem_of_head? hit)] at hmark
    cases hmark
  rw [Bool.eq_iff_iff, List.any_eq_true, List.any_eq_true]
  constructor
  · rintro ⟨q, hq, hhead⟩
    have hne : q ≠ p := by simpa using (List.mem_filter.mp hq).2
    exact ⟨q, mem_allPorts q, by simp [hne, hhead]⟩
  · rintro ⟨q, -, hq⟩
    obtain ⟨hne, hhead⟩ : q ≠ p ∧ headIsMarker s i q = true := by simpa using hq
    exact ⟨q, List.mem_filter.mpr ⟨(mem_members m q).mpr (hmember q hne hhead), by simpa using hne⟩,
      hhead⟩

theorem fencesBroken_breakFence {p : PortNo} (reason : BreakReason) {s : State} {i : FenceNo}
    (h : Breakable p s i) : FencesBroken p reason [i] s (breakFence p reason s i) := by
  obtain ⟨g, hg, hmembers⟩ := h
  have hbody : brokenBody p reason (s.fence i) =
      some (.fence g.stamp g.members (.broken p reason)) := by rw [hg]; rfl
  have hport := port_foldl_removeMarker_members
    (s := useReservation (.fence g.stamp g.members (.broken p reason)) s) hmembers
  have hdue := decisionDue_foldl_removeMarker i _ ((nodup_members g.members).filter (· != p))
    (useReservation (.fence g.stamp g.members (.broken p reason)) s)
  rw [any_members_headIsMarker
    (s := useReservation (.fence g.stamp g.members (.broken p reason)) s) hmembers] at hdue
  have hframe := foldl_removeMarker_frame i ((members g.members).filter (· != p))
    (useReservation (.fence g.stamp g.members (.broken p reason)) s)
  rw [breakFence, hg]
  dsimp only
  generalize List.foldl (removeMarker i) _ _ = v at hport hdue hframe ⊢
  obtain ⟨ports, free, due, rfl⟩ := hframe
  exact
    { port_self := (hport p).trans (if_pos rfl)
      port_other := fun q hq => (hport q).trans (if_neg hq)
      fence := fun j => by simp only [List.mem_singleton]; exact fence_setFence i j .free _
      reports := by rw [brokenBodies_cons hbody]; rfl
      nextRC := rfl
      reservations := rfl
      decisionDue := hdue
      frame := rfl }

theorem withoutMarkers_append (a b : List FenceNo) (q : List Item) :
    withoutMarkers b (withoutMarkers a q) = withoutMarkers (a ++ b) q := by
  simp only [withoutMarkers, List.filter_filter, List.all_append, Bool.and_comm]

theorem any_or_any {α : Type} (l : List α) (f g : α → Bool) :
    (l.any f || l.any g) = l.any fun a => f a || g a := by
  rw [Bool.eq_iff_iff]
  simp only [Bool.or_eq_true, List.any_eq_true, ← exists_or, ← and_or_left]

/-- Where a broken fence's marker stood at no head, the head is the same after the break. -/
theorem any_headIsMarker_append {p : PortNo} {reason : BreakReason} {i : FenceNo}
    {l : List FenceNo} {s t : State} (h : FencesBroken p reason [i] s t) :
    ((allPorts.any fun q => decide (q ≠ p) && [i].any fun j => headIsMarker s j q) ||
        allPorts.any fun q => decide (q ≠ p) && l.any fun j => headIsMarker t j q) =
      allPorts.any fun q => decide (q ≠ p) && (i :: l).any fun j => headIsMarker s j q := by
  have hport : ∀ q, q ≠ p → headIsMarker s i q = false →
      ∀ j, headIsMarker t j q = headIsMarker s j q := by
    intro q hq hhead j
    rw [headIsMarker_eq] at hhead
    rw [headIsMarker_eq, headIsMarker_eq, h.port_other q hq]
    simp only [withoutMarkers, List.all_cons, List.all_nil, Bool.and_true]
    rw [head?_filter_not_marker hhead]
  rw [any_or_any]
  refine any_congr_of_mem fun q _ => ?_
  by_cases hq : q = p
  · simp [hq]
  · cases hhead : headIsMarker s i q
    · simp [hq, hhead, hport q hq hhead]
    · simp [hq, hhead]

theorem FencesBroken.cons {p : PortNo} {reason : BreakReason} {i : FenceNo} {l : List FenceNo}
    {b : ReportBody}
    {s t u : State} (hi : i ∉ l) (hb : brokenBody p reason (s.fence i) = some b)
    (h : FencesBroken p reason [i] s t)
    (h' : FencesBroken p reason l t u) : FencesBroken p reason (i :: l) s u where
  port_self := h'.port_self.trans h.port_self
  port_other q hq := by
    rw [h'.port_other q hq, h.port_other q hq]
    dsimp only
    rw [withoutMarkers_append, List.singleton_append]
  fence j := by
    rw [h'.fence, h.fence]
    by_cases hj : j = i
    · simp [hj]
    · simp [hj]
  reports := by
    have hfence : brokenBodies p reason t l = brokenBodies p reason s l :=
      brokenBodies_congr fun j hj => by
        rw [h.fence, if_neg (by simpa using ne_of_mem_of_not_mem hj hi)]
    rw [h'.reports, h.reports, h.nextRC, hfence, brokenBodies_cons hb, brokenBodies_cons hb,
      List.append_assoc]
    rfl
  nextRC := by
    rw [h'.nextRC, h.nextRC, List.length_cons (as := l), add_ofNat_succ s.nextRC l.length]; rfl
  reservations := by
    rw [h'.reservations, h.reservations, List.length_cons (as := l), List.length_singleton]; omega
  decisionDue := by
    rw [h'.decisionDue, h.decisionDue, Bool.or_assoc, any_headIsMarker_append h]
  frame := discardedAs_trans h.frame h'.frame

theorem Breakable.of_fencesBroken {p : PortNo} {reason : BreakReason} {i j : FenceNo} {s t : State}
    (h : FencesBroken p reason [i] s t) (hij : j ≠ i) (hj : Breakable p s j) : Breakable p t j := by
  obtain ⟨g, hg, hmembers⟩ := hj
  refine ⟨g, ?_, fun q hq hm it hit => ?_⟩
  · rw [h.fence, if_neg (by simpa using hij)]; exact hg
  · rw [h.port_other q hq] at hit
    exact hmembers q hq hm it (List.mem_of_mem_filter hit)

/-- The breaks of several fences, one after another (R120). -/
theorem fencesBroken_foldl {p : PortNo} (reason : BreakReason) {l : List FenceNo} (hl : l.Nodup)
    {s : State} (h : ∀ i ∈ l, Breakable p s i) :
    FencesBroken p reason l s (l.foldl (breakFence p reason) s) := by
  induction l generalizing s with
  | nil => exact fencesBroken_nil p reason s
  | cons i l ih =>
    obtain ⟨hi, hl⟩ := List.nodup_cons.mp hl
    have hbreakable := h i List.mem_cons_self
    have hfirst := fencesBroken_breakFence reason hbreakable
    obtain ⟨b, hb⟩ := Option.isSome_iff_exists.mp (hbreakable.isSome reason)
    exact hfirst.cons hi hb (ih hl fun j hj =>
      (h j (List.mem_cons_of_mem i hj)).of_fencesBroken hfirst (ne_of_mem_of_not_mem hj hi))

/-! ### The whole-queue discard -/

theorem kept_append_discarded (s : State) (p : PortNo) :
    kept s p ++ discarded s p = (s.port p).queue := by
  unfold kept discarded
  split
  · exact List.take_append_drop 1 _
  · rfl

theorem kept_isEmpty (s : State) (p : PortNo) :
    ((kept s p).isEmpty && !(s.port p).queue.isEmpty) =
      (!jobInFlight s p && !(s.port p).queue.isEmpty) := by
  unfold kept
  cases jobInFlight s p
  · rfl
  · cases (s.port p).queue <;> rfl

theorem port_emptyQueue (p : PortNo) (s : State) (q : PortNo) :
    (emptyQueue p s).port q =
      if q = p then { s.port p with queue := kept s p } else s.port q := by
  unfold emptyQueue
  dsimp only
  split
  · rw [port_callArbiter, port_setQueue]
  · rw [port_setQueue]

theorem decisionDue_emptyQueue (p : PortNo) (s : State) :
    (emptyQueue p s).decisionDue =
      (s.decisionDue || (!jobInFlight s p && !(s.port p).queue.isEmpty)) := by
  rw [← kept_isEmpty]
  unfold emptyQueue
  dsimp only
  split
  case isTrue h => rw [h, Bool.or_true]; rfl
  case isFalse h => rw [Bool.eq_false_iff.mpr h, Bool.or_false]; rfl

/-- Emptying a queue writes the port records, the free count and the decision that is due. -/
theorem emptyQueue_frame (p : PortNo) (s : State) :
    ∃ ports free due, emptyQueue p s =
      { s with ports := ports, free := free, decisionDue := due } := by
  unfold emptyQueue
  dsimp only
  split
  · exact ⟨_, _, _, rfl⟩
  · exact ⟨_, _, s.decisionDue, rfl⟩

/-- The fences that a discard breaks, lowest index first (R18, R120). -/
def brokenFences (s : State) (p : PortNo) : List FenceNo :=
  allFences.filter fun i => (discarded s p).any (Item.isMarkerOf i)

theorem mem_brokenFences {s : State} {p : PortNo} {i : FenceNo} :
    i ∈ brokenFences s p ↔ ∃ it ∈ discarded s p, it.isMarkerOf i = true := by
  simp [brokenFences, mem_allFences]

theorem jobInFlight_iff (s : State) (p : PortNo) :
    jobInFlight s p = true ↔
      ∃ x : Transaction, (s.bus = .sending x ∨ ∃ d, s.bus = .awaiting x d) ∧
        x.port = p ∧ ∃ k, x.kind = .job k := by
  have hkind : ∀ k : TxnKind, k ≠ .poll ↔ ∃ j, k = .job j := fun k => by cases k <;> simp
  unfold jobInFlight
  cases s.bus <;> simp [hkind]

theorem isMarkerOf_iff (it : Item) (i : FenceNo) :
    it.isMarkerOf i = true ↔ ∃ stamp, it = .marker stamp i := by
  cases it <;> simp [Item.isMarkerOf]

theorem bytes_fence_broken {reason : BreakReason} {code : Byte} (p : PortNo)
    (h : (reason, code) ∈ [(BreakReason.flush, 1#8), (.closeDiscard, 2#8), (.closedFaulted, 3#8),
      (.failedWhileClosing, 4#8)]) (stamp : Count) (m : PortSet) :
    (ReportBody.fence stamp m (.broken p reason)).bytes =
      bytes16 stamp ++ bytes16 m ++ [1#8, BitVec.ofNat 8 p.val, code] := by
  have hcode : breakCode reason = code := by
    cases reason <;> simpa [breakCode, eq_comm] using h
  rw [← hcode]; rfl

/-- The discard from a state whose markers stand as the fence table says: the fences it breaks are
broken from the state with the queue emptied. -/
theorem fencesBroken_discardQueue {p : PortNo} (reason : BreakReason) {s : State}
    (houtside : ∀ i g, s.fence i = .gathering g → g.members.getLsbD p.val = true →
      ∀ q, g.members.getLsbD q.val = false → ∀ it ∈ (s.port q).queue, it.isMarkerOf i = false)
    (hremoved : ∀ i, (∃ it ∈ discarded s p, it.isMarkerOf i = true) →
      ∃ g, s.fence i = .gathering g ∧ g.members.getLsbD p.val = true) :
    FencesBroken p reason (brokenFences s p) (emptyQueue p s) (discardQueue p reason s) := by
  refine fencesBroken_foldl reason (List.Nodup.filter _ (by decide)) fun i hi => ?_
  obtain ⟨g, hg, hp⟩ := hremoved i (mem_brokenFences.mp hi)
  obtain ⟨ports, free, due, hframe⟩ := emptyQueue_frame p s
  refine ⟨g, ?_, fun q hq hm it hit => ?_⟩
  · rw [hframe]; exact hg
  · rw [port_emptyQueue, if_neg hq] at hit
    exact houtside i g hg hp q hm it hit

/-- The decision that a discard leaves due: an emptied queue's head, or a broken fence's marker at
another head, has gone. -/
theorem decisionDue_of_fencesBroken {p : PortNo} {reason : BreakReason} {l : List FenceNo}
    {s t : State} (h : FencesBroken p reason l (emptyQueue p s) t) :
    t.decisionDue =
      (s.decisionDue || (!jobInFlight s p && !(s.port p).queue.isEmpty) ||
        allPorts.any fun q => decide (q ≠ p) && l.any fun i => headIsMarker s i q) := by
  rw [h.decisionDue, decisionDue_emptyQueue]
  congr 1
  refine any_congr_of_mem fun q _ => ?_
  by_cases hq : q = p
  · simp [hq]
  · have hhead : ∀ i, headIsMarker (emptyQueue p s) i q = headIsMarker s i q :=
      headIsMarker_congr (by rw [port_emptyQueue, if_neg hq])
    simp only [hhead]

/-- Settles O28: the queue is emptied first, then the fences break one after another; each field is
read off the two. -/
theorem wholeQueueDiscard : Obligations.WholeQueueDiscard := by
  intro p reason s t broken hpool houtside hremoved hbroken ht
  rw [hbroken, ht]
  have h := fencesBroken_discardQueue reason houtside hremoved
  obtain ⟨ports, free, due, hempty⟩ := emptyQueue_frame p s
  have hfence : ∀ i, (emptyQueue p s).fence i = s.fence i := fun i => by rw [hempty]; rfl
  have hreports : (discardQueue p reason s).reports =
      s.reports ++ numbered s.nextRC (brokenBodies p reason s (brokenFences s p)) := by
    rw [h.reports, brokenBodies_congr fun i _ => hfence i, hempty]
  have hgathering : ∀ i ∈ brokenFences s p, (brokenBody p reason (s.fence i)).isSome := by
    intro i hi
    obtain ⟨g, hg, -⟩ := hremoved i (mem_brokenFences.mp hi)
    rw [hg]; rfl
  refine ⟨jobInFlight_iff s p, isMarkerOf_iff, fun hf => if_neg (by rw [hf]; nofun),
    fun hf => if_pos hf, ?_, (kept_append_discarded s p).symm, fun q hq => ?_,
    (drains_discardQueue p reason s).conserved.trans hpool, fun i => ?_, ?_, ?_,
    fun n i g hi hg => ?_, fun code hcode => bytes_fence_broken p hcode,
    decisionDue_of_fencesBroken h, ?_, ?_, fun q => ?_, ?_⟩
  · rw [h.port_self, port_emptyQueue, if_pos rfl]
  · rw [h.port_other q hq, port_emptyQueue, if_neg hq]; rfl
  · rw [h.fence, hfence]; rfl
  · rw [hreports, List.map_append, map_body_numbered]
    exact congrArg _ (List.filterMap_congr fun i _ => by cases s.fence i <;> rfl)
  · rw [hreports, List.take_left]
  · rw [hreports, List.getElem?_append_right (Nat.le_add_right _ _), Nat.add_sub_cancel_left,
      getElem?_numbered, brokenBodies, getElem?_filterMap_of_isSome hgathering,
      show (brokenFences s p)[n]? = some i from hi, Option.bind_some, hg]
    rfl
  · rw [h.nextRC, hempty]; rfl
  · rw [h.reservations, hempty]; rfl
  · by_cases hq : q = p
    · rw [hq, h.port_self, port_emptyQueue, if_pos rfl]
    · rw [h.port_other q hq, port_emptyQueue, if_neg hq]
  · rw [hempty] at h
    exact h.frame

end Sys2Proof.Machine
end

section
/-! PROOF. The layouts of the host frames read back (R33, R176): a frame's bytes give the frame, and
the bytes of a frame that was read are the frame's own. -/

namespace Sys2Proof.Machine

/-! ### 16-bit fields -/

@[simp] theorem word16_hiByte_loByte (c : BitVec 16) : word16 (hiByte c) (loByte c) = c :=
  (BitVec.extractLsb'_append_extractLsb'_eq_extractLsb' rfl).trans BitVec.extractLsb'_eq_self

@[simp] theorem hiByte_word16 (hi lo : Byte) : hiByte (word16 hi lo) = hi :=
  BitVec.extractLsb'_append_eq_left

@[simp] theorem loByte_word16 (hi lo : Byte) : loByte (word16 hi lo) = lo :=
  BitVec.extractLsb'_append_eq_right

@[simp] theorem bytes16_word16 (hi lo : Byte) : bytes16 (word16 hi lo) = [hi, lo] := by
  simp [bytes16]

/-- Its two bytes tell a 16-bit field from every other. -/
theorem bytes16_inj {c d : BitVec 16} : bytes16 c = bytes16 d ↔ c = d := by
  refine ⟨fun h => ?_, congrArg bytes16⟩
  obtain ⟨hhi, hlo⟩ : hiByte c = hiByte d ∧ loByte c = loByte d := by simpa [bytes16] using h
  rw [← word16_hiByte_loByte c, hhi, hlo, word16_hiByte_loByte]

/-! ### The bytes of a frame give the frame -/

theorem readJob_fieldBytes (k : JobKind) (stamp : Count) (port : Byte) {data : List Byte}
    (h : data.length ≤ Config.maxData) :
    readJob k (HostFrame.job k stamp port data).fieldBytes = some (.job k stamp port data) := by
  simp [HostFrame.fieldBytes, bytes16, readJob, h]

/-- Each TYPE code picks the reader of its own layout, and the reader joins the 16-bit fields that
the frame's bytes split. -/
theorem decodeFrame_body {f : HostFrame} (h : frameBounded f = true) :
    decodeFrame f.body = some f := by
  match f with
  | .job k stamp port data =>
    have hread := readJob_fieldBytes k stamp port (of_decide_eq_true h)
    cases k <;> exact hread
  | .fence stamp m =>
    exact congrArg₂ (fun c d => some (HostFrame.fence c d)) (word16_hiByte_loByte stamp)
      (word16_hiByte_loByte m)
  | .mark stamp echo =>
    exact congrArg (fun c => some (HostFrame.mark c echo)) (word16_hiByte_loByte stamp)
  | .openPort stamp port params =>
    exact congrArg (fun c => some (HostFrame.openPort c port params)) (word16_hiByte_loByte stamp)
  | .close stamp port mode =>
    exact congrArg (fun c => some (HostFrame.close c port mode)) (word16_hiByte_loByte stamp)
  | .setup stamp code reserve enable =>
    exact congrArg (fun c => some (HostFrame.setup c code reserve enable))
      (word16_hiByte_loByte stamp)
  | .resume mode count =>
    exact congrArg (fun c => some (HostFrame.resume mode c)) (word16_hiByte_loByte count)
  | .recall rc => exact congrArg (fun c => some (HostFrame.recall c)) (word16_hiByte_loByte rc)
  | .fill => rfl
  | .restart => rfl
  | .tend _ _ => rfl
  | .query _ _ _ _ => rfl

/-! ### A frame that a reader gives has the bytes read -/

theorem body_of_readJob {k : JobKind} {l : List Byte} {f : HostFrame} (h : readJob k l = some f) :
    f.body = k.code :: l ∧ frameBounded f = true := by
  unfold readJob at h
  split at h
  · split_ifs at h with hdata
    cases h
    exact ⟨by simp [HostFrame.body, HostFrame.typeCode, HostFrame.fieldBytes],
      decide_eq_true hdata⟩
  · cases h

theorem body_of_readFence {l : List Byte} {f : HostFrame} (h : readFence l = some f) :
    f.body = 0x24#8 :: l ∧ frameBounded f = true := by
  match l, h with
  | [_, _, _, _], rfl =>
    exact ⟨by simp [HostFrame.body, HostFrame.typeCode, HostFrame.fieldBytes], rfl⟩

theorem body_of_readMark {l : List Byte} {f : HostFrame} (h : readMark l = some f) :
    f.body = 0x25#8 :: l ∧ frameBounded f = true := by
  match l, h with
  | [_, _, _], rfl =>
    exact ⟨by simp [HostFrame.body, HostFrame.typeCode, HostFrame.fieldBytes], rfl⟩

theorem body_of_readOpen {l : List Byte} {f : HostFrame} (h : readOpen l = some f) :
    f.body = 0x26#8 :: l ∧ frameBounded f = true := by
  match l, h with
  | [_, _, _, _, _, _, _, _, _, _, _, _, _], rfl =>
    exact ⟨by simp [HostFrame.body, HostFrame.typeCode, HostFrame.fieldBytes, OpenParams.bytes],
      rfl⟩

theorem body_of_readClose {l : List Byte} {f : HostFrame} (h : readClose l = some f) :
    f.body = 0x27#8 :: l ∧ frameBounded f = true := by
  match l, h with
  | [_, _, _, _], rfl =>
    exact ⟨by simp [HostFrame.body, HostFrame.typeCode, HostFrame.fieldBytes], rfl⟩

theorem body_of_readSetup {l : List Byte} {f : HostFrame} (h : readSetup l = some f) :
    f.body = 0x28#8 :: l ∧ frameBounded f = true := by
  match l, h with
  | [_, _, _, _, _], rfl =>
    exact ⟨by simp [HostFrame.body, HostFrame.typeCode, HostFrame.fieldBytes], rfl⟩

theorem body_of_readResume {l : List Byte} {f : HostFrame} (h : readResume l = some f) :
    f.body = 0x41#8 :: l ∧ frameBounded f = true := by
  match l, h with
  | [_, _, _], rfl =>
    exact ⟨by simp [HostFrame.body, HostFrame.typeCode, HostFrame.fieldBytes], rfl⟩

theorem body_of_readRecall {l : List Byte} {f : HostFrame} (h : readRecall l = some f) :
    f.body = 0x45#8 :: l ∧ frameBounded f = true := by
  match l, h with
  | [_, _], rfl =>
    exact ⟨by simp [HostFrame.body, HostFrame.typeCode, HostFrame.fieldBytes], rfl⟩

theorem body_of_readTend {l : List Byte} {f : HostFrame} (h : readTend l = some f) :
    f.body = 0x43#8 :: l ∧ frameBounded f = true := by
  match l, h with
  | [_, _], rfl => exact ⟨rfl, rfl⟩

theorem body_of_readQuery {l : List Byte} {f : HostFrame} (h : readQuery l = some f) :
    f.body = 0x44#8 :: l ∧ frameBounded f = true := by
  match l, h with
  | [_, _, _, _], rfl => exact ⟨rfl, rfl⟩

theorem body_of_readBare {l : List Byte} {f g : HostFrame} (hbare : g.fieldBytes = [])
    (hg : frameBounded g = true) (h : readBare g l = some f) :
    f.body = g.typeCode :: l ∧ frameBounded f = true := by
  match l, h with
  | [], rfl => exact ⟨congrArg _ hbare, hg⟩

/-- Where the TYPE is the code `c` the frame comes from one reader, and otherwise from the rest of
the table. -/
theorem body_of_branch {ty c : Byte} {l : List Byte} {f : HostFrame}
    {reader rest : Option HostFrame}
    (hreader : reader = some f → f.body = c :: l ∧ frameBounded f = true)
    (hrest : rest = some f → f.body = ty :: l ∧ frameBounded f = true)
    (h : (if ty = c then reader else rest) = some f) :
    f.body = ty :: l ∧ frameBounded f = true := by
  split_ifs at h with hty
  · rw [hty]; exact hreader h
  · exact hrest h

/-- The TYPE byte picks one reader, whose frame has that TYPE and the bytes read. -/
theorem body_of_decodeFrame {body : List Byte} {f : HostFrame} (h : decodeFrame body = some f) :
    f.body = body ∧ frameBounded f = true := by
  cases body with
  | nil => cases h
  | cons ty fields =>
    revert h
    exact
      body_of_branch body_of_readJob <| body_of_branch body_of_readJob <|
      body_of_branch body_of_readJob <| body_of_branch body_of_readFence <|
      body_of_branch body_of_readMark <| body_of_branch body_of_readOpen <|
      body_of_branch body_of_readClose <| body_of_branch body_of_readSetup <|
      body_of_branch (body_of_readBare rfl rfl) <| body_of_branch body_of_readResume <|
      body_of_branch (body_of_readBare rfl rfl) <| body_of_branch body_of_readTend <|
      body_of_branch body_of_readQuery <| body_of_branch body_of_readRecall nofun

/-- Settles O12: writing then reading by the layout of each frame, and reading then writing by the
reader that the TYPE picks. -/
theorem frameLayoutsReadBack : Obligations.FrameLayoutsReadBack :=
  ⟨fun _ h => decodeFrame_body h, fun _ _ h => body_of_decodeFrame h⟩

end Sys2Proof.Machine
end

section
/-! PROOF. What commands answer (`exec_answers`), and what the frames of the uplink do to the
stream: damaged and malformed frames, the silence timer, counted frames that are not at AC in RUN,
and RESUME (R35 to R47). -/

namespace Sys2Proof.Machine

/-! ### Answers -/

/-- A command answers a next state, or is refused where no frame can carry its operands. -/
theorem exec_answers (c : Instr) (s : State) :
    ∃ t, exec c s = if c.carried then .next t else .refused .illFormed := by
  cases hhost : hostFrameOf c with
  | some f => exact ⟨_, exec_of_hostFrame hhost s⟩
  | none =>
    cases hgood : goodFrameOf c with
    | some frame => exact ⟨_, exec_of_goodFrame hgood s⟩
    | none =>
      cases c with
      | damagedFrame | malformedFrame => exact ⟨_, rfl⟩
      | noise | outOfRangeLen | tgapExpiry | framingError | silenceTimerExpiry
      | endOfTransmission | sendEndOfSending | commandEndOfSending | pollEndOfSending
      | deadlineMet | tributaryDamagedFrame | tributaryCharacterGapExpiry | deadlineExpiry
      | busyWaitExpiry | tquietExpiry | abandonedCharacterEnd | attnChange | resetAsserted
      | resetReleased => exact ⟨_, rfl⟩
      | replyDone | replyBusy | replyRefused | replyEvent | replyNone
      | tributaryOtherFrame => cases hgood
      | _ => cases hhost

/-- Settles O2: by `exec_answers`, whose condition is `carried`. -/
theorem carriedCommandsComplete : Obligations.CarriedCommandsComplete := by
  intro c s
  obtain ⟨t, h⟩ := exec_answers c s
  rw [h]
  exact ⟨fun hc => ⟨t, if_pos hc⟩, fun hc => if_neg (by rw [hc]; nofun)⟩

/-! ### Events -/

theorem event_of_running {s : State} (h : s.resetHeld = false) (f : State → State) :
    event f s = endEvent (f s) := if_neg (by rw [h]; nofun)

theorem eventIf_of_running {s : State} {occurs : State → Bool} (h : s.resetHeld = false)
    (hoccurs : occurs s = true) (f : State → State) : eventIf occurs f s = endEvent (f s) :=
  (if_pos hoccurs).trans (event_of_running h f)

/-- A carried host frame is served and the event ends. -/
theorem exec_of_carried_hostFrame {c : Instr} {f : HostFrame} {s : State}
    (hf : hostFrameOf c = some f) (hc : c.carried = true) (h : s.resetHeld = false) :
    exec c s = .next (endEvent (serve f (frameReceived s))) := by
  rw [exec_of_hostFrame hf, if_pos hc, frameEvent, event_of_running h, acceptFrame]

/-! ### Entering HOLD -/

theorem holdIfRunning_run (c : HoldCause) (s : State) (h : s.stream = .run) :
    holdIfRunning c s = enterHold c s := by
  rw [holdIfRunning, h]

theorem holdIfRunning_hold (c : HoldCause) (s : State) {k : HoldCause} (h : s.stream = .hold k) :
    holdIfRunning c s = s := by
  rw [holdIfRunning, h]

theorem damagedNotice_run {s : State} (h : s.stream = .run) :
    damagedNotice s = enterHold .check (bump .checkErr s) := holdIfRunning_run _ (bump _ s) h

theorem damagedNotice_hold {s : State} {k : HoldCause} (h : s.stream = .hold k) :
    damagedNotice s = bump .checkErr s := holdIfRunning_hold _ (bump _ s) h

theorem malformed_run {s : State} (h : s.stream = .run) :
    malformed s = enterHold .malformed (bump .malformed s) := holdIfRunning_run _ (bump _ s) h

theorem malformed_hold {s : State} {k : HoldCause} (h : s.stream = .hold k) :
    malformed s = bump .malformed s := holdIfRunning_hold _ (bump _ s) h

theorem silenceExpires_run {s : State} (h : s.stream = .run) :
    silenceExpires s = enterHold .silence { s with link := .quiet, silenceTimer := none } := by
  rw [silenceExpires, holdIfRunning_run]
  · rfl
  · exact h

theorem silenceExpires_hold {s : State} {k : HoldCause} (h : s.stream = .hold k) :
    silenceExpires s =
      { s with
        link := .quiet
        silenceTimer := none
        streamPending := if s.link = .live then true else s.streamPending } := by
  have hpending : (if s.link = .live then true else s.streamPending) =
      (s.streamPending || decide (s.link = .live)) := by cases s.link <;> simp
  rw [hpending]
  rw [silenceExpires, holdIfRunning_hold (k := k)]
  exact h

/-! ### Damaged and malformed frames -/

theorem exec_tgapExpiry_inFrame {s : State} {len : Byte} {rest : List Byte}
    (h : s.resetHeld = false) (hrx : s.rx = .inFrame (len :: rest)) :
    exec .tgapExpiry s = .next (endEvent (damagedNotice (huntUplink s))) := by
  have hruns : tGapRuns s = true := by rw [tGapRuns, hrx]
  have hexpires : tGapExpires s = damagedNotice (huntUplink s) := by rw [tGapExpires, hrx]
  rw [← hexpires, ← eventIf_of_running h hruns]; rfl

theorem exec_framingError_inFrame {s : State} {len : Byte} {rest : List Byte}
    (h : s.resetHeld = false) (hrx : s.rx = .inFrame (len :: rest)) (b : Byte) :
    exec (.framingError b) s = .next (endEvent (damagedNotice (huntUplink s))) := by
  have hchar : uplinkChar b true s = damagedNotice (huntUplink s) := by rw [uplinkChar, hrx]; rfl
  rw [← hchar, ← event_of_running h]; rfl

/-- A frame of these body bytes ends: good if the CRC bytes agree, damaged if not (R26). -/
theorem exec_damagedFrame {s : State} {body : List Byte} (h : s.resetHeld = false)
    (hmin : 1 ≤ body.length) (hmax : body.length ≤ Config.maxLen) (crc : BitVec 16) :
    exec (.damagedFrame body crc) s =
      .next (endEvent
        (if crc = crc16 (byteOf body.length :: body) then acceptBody body (huntUplink s)
        else damagedNotice (huntUplink s))) := by
  have hcarried : (Instr.damagedFrame body crc).carried = true := decide_eq_true ⟨hmin, hmax⟩
  exact (if_pos hcarried).trans (congrArg _ (event_of_running h _))

/-- Settles O8: each of the three endings is one damaged-frame notice in HUNT. -/
theorem damagedFrame : Obligations.DamagedFrame := by
  intro s h u hrun hhold
  have hnotice : damagedNotice (huntUplink s) = u := by
    cases hs : s.stream with
    | run => rw [hrun hs, damagedNotice_run (s := huntUplink s) hs]; rfl
    | hold k => rw [hhold k hs, damagedNotice_hold (s := huntUplink s) hs]; rfl
  refine ⟨fun len rest hrx => ⟨?_, fun b => ?_⟩, fun body crc hmin hmax hcrc => ?_⟩
  · rw [exec_tgapExpiry_inFrame h hrx, hnotice]
  · rw [exec_framingError_inFrame h hrx, hnotice]
  · have hdamaged : crc ≠ crc16 (byteOf body.length :: body) := hcrc
    rw [exec_damagedFrame h hmin hmax, if_neg hdamaged, hnotice]

/-- Settles O9: the frame is received, and the structural check fails. -/
theorem malformedFrame : Obligations.MalformedFrame := by
  intro body s h hmin hmax hbody
  have hcarried : (Instr.malformedFrame body).carried = true := decide_eq_true ⟨hmin, hmax⟩
  have hmalformed : acceptBody body s = malformed (frameReceived s) := by rw [acceptBody, hbody]
  have hexec : exec (.malformedFrame body) s = .next (endEvent (malformed (frameReceived s))) := by
    rw [← hmalformed]
    exact (if_pos hcarried).trans (congrArg _ (event_of_running h _))
  refine ⟨fun hs => ?_, fun k hs => ?_⟩
  · rw [hexec, malformed_run (s := frameReceived s) hs]; rfl
  · rw [hexec, malformed_hold (s := frameReceived s) hs]

/-! ### Link and silence timer -/

/-- Settles O14: FILL is served by nothing more than its reception. -/
theorem fillActsByReception : Obligations.FillActsByReception := by
  intro s h
  refine ⟨by rw [exec_of_carried_hostFrame rfl rfl h, serve], ?_⟩
  have hpending : (if s.link = .quiet then true else s.streamPending) =
      (s.streamPending || decide (s.link = .quiet)) := by cases s.link <;> simp
  rw [hpending]; rfl

/-- Settles O15: the expiry is the loss of the link, and then the hold if the stream is in RUN. -/
theorem silenceExpiry : Obligations.SilenceExpiry := by
  intro n s h htimer
  have hexec : exec .silenceTimerExpiry s = .next (endEvent (silenceExpires s)) :=
    congrArg _ (eventIf_of_running h (by rw [htimer]; rfl) silenceExpires)
  refine ⟨⟨rfl, rfl⟩, fun hs => ?_, fun k hs => ?_⟩
  · rw [hexec, silenceExpires_run hs]; rfl
  · rw [hexec, silenceExpires_hold hs]

/-! ### Counted frames that are not at AC in RUN -/

theorem serve_of_frameStamp {f : HostFrame} {stamp : Count} (h : frameStamp f = some stamp) :
    ∃ ty verdict effect, serve f = counted stamp ty verdict effect := by
  cases f <;> cases h <;> exact ⟨_, _, _, rfl⟩

/-- A carried counted frame is served by its stamp, its checks and its effect. -/
theorem exec_of_countedStamp {c : Instr} {stamp : Count} {s : State}
    (hstamp : countedStamp c = some stamp) (hc : c.carried = true) (h : s.resetHeld = false) :
    ∃ ty verdict effect,
      exec c s = .next (endEvent (counted stamp ty verdict effect (frameReceived s))) := by
  obtain ⟨f, hf, hfs⟩ := Option.bind_eq_some_iff.mp hstamp
  obtain ⟨ty, verdict, effect, hserve⟩ := serve_of_frameStamp hfs
  exact ⟨ty, verdict, effect, by rw [exec_of_carried_hostFrame hf hc h, hserve]⟩

section
variable (ty : Byte) (verdict : State → Verdict) (effect : State → State)
  {stamp : Count} (s : State)

theorem counted_hold {k : HoldCause} (hs : s.stream = .hold k) :
    counted stamp ty verdict effect s = { bump .heldDiscard s with streamPending := true } := by
  rw [counted, hs]

theorem counted_duplicate (hs : s.stream = .run) (hmin : 1 ≤ (s.ac - stamp).toNat)
    (hmax : (s.ac - stamp).toNat ≤ 32767) :
    counted stamp ty verdict effect s = bump .duplicate s := by
  have hne : stamp ≠ s.ac := by rintro rfl; simp at hmin
  have hbehind : behind stamp s.ac = true := decide_eq_true ⟨hmin, hmax⟩
  simp only [counted, hs, if_neg hne, if_pos hbehind]

theorem counted_gap (hs : s.stream = .run) (hmin : 1 ≤ (stamp - s.ac).toNat)
    (hmax : (stamp - s.ac).toNat ≤ 32768) :
    counted stamp ty verdict effect s = enterHold .gap s := by
  have hne : stamp ≠ s.ac := by rintro rfl; simp at hmin
  have hahead : ¬ behind stamp s.ac = true := by
    rw [behind, decide_eq_true_iff]
    bv_omega
  simp only [counted, hs, if_neg hne, if_neg hahead]

end

/-- Settles O16: in HOLD the stamp is not compared. -/
theorem countedFrameInHold : Obligations.CountedFrameInHold := by
  intro c stamp k s hstamp hc h hs
  obtain ⟨ty, verdict, effect, hexec⟩ := exec_of_countedStamp hstamp hc h
  rw [hexec, counted_hold ty verdict effect (frameReceived s) hs]

/-- Settles O17: a stamp 1..32767 behind AC is not AC, and one 1..32768 ahead is neither AC nor
behind it. -/
theorem countedFrameNotAtAC : Obligations.CountedFrameNotAtAC := by
  constructor
  · intro c stamp s hstamp hc h hs hmin hmax
    obtain ⟨ty, verdict, effect, hexec⟩ := exec_of_countedStamp hstamp hc h
    rw [hexec, counted_duplicate ty verdict effect (frameReceived s) hs hmin hmax]
  · intro c stamp s hstamp hc h hs hmin hmax
    obtain ⟨ty, verdict, effect, hexec⟩ := exec_of_countedStamp hstamp hc h
    rw [hexec, counted_gap ty verdict effect (frameReceived s) hs hmin hmax]
    rfl

/-! ### RESUME -/

theorem resumeTarget_continue (count ac : Count) :
    resumeTarget 0x00#8 count ac = if count = ac then some ac else none := rfl

theorem resumeTarget_rebase (count ac : Count) :
    resumeTarget 0x01#8 count ac = if (count - ac).toNat ≤ 32767 then some count else none := by
  simp [resumeTarget, rebaseRange]

theorem resumeTarget_unknown {mode : Byte} (h : 2 ≤ mode.toNat) (count ac : Count) :
    resumeTarget mode count ac = none := by
  have hcontinue : mode ≠ 0#8 := by bv_omega
  have hrebase : mode ≠ 1#8 := by bv_omega
  rw [resumeTarget, if_neg hcontinue, if_neg hrebase]

theorem resume_accepted {mode : Byte} {count c : Count} {k : HoldCause} (s : State)
    (hs : s.stream = .hold k) (hc : resumeTarget mode count s.ac = some c) :
    resume mode count s = { s with ac := c, stream := .run, streamPending := true } := by
  rw [resume, hs, hc]

theorem resume_refused {mode : Byte} {count : Count} (s : State)
    (h : s.stream = .run ∨ resumeTarget mode count s.ac = none) :
    resume mode count s = refuseResume s := by
  unfold resume
  split
  case h_1 hs hc => simp [hs, hc] at h
  case h_2 => rfl

/-- Settles O18: by the count that mode and count of the RESUME leave AC at, if any. -/
theorem resumeAcceptedOrRefused : Obligations.Resume := by
  refine ⟨fun count k s h hs => ⟨fun hcount => ?_, fun hcount => ?_⟩, fun count s h u hu => ?_⟩
  · have htarget : resumeTarget 0x00#8 count s.ac = some s.ac := by
      rw [resumeTarget_continue, if_pos hcount]
    rw [exec_of_carried_hostFrame rfl rfl h, serve, resume_accepted (frameReceived s) hs htarget]
    rfl
  · have htarget : resumeTarget 0x01#8 count s.ac = some count := by
      rw [resumeTarget_rebase, if_pos hcount]
    rw [exec_of_carried_hostFrame rfl rfl h, serve, resume_accepted (frameReceived s) hs htarget]
  · have hrefused {mode : Byte} (hr : s.stream = .run ∨ resumeTarget mode count s.ac = none) :
        serve (.resume mode count) (frameReceived s) = u :=
      (resume_refused (frameReceived s) hr).trans hu.symm
    refine ⟨fun hr => ?_, fun hr => ?_, fun mode hmode => ?_⟩
    · have hnone := hr.imp_right fun hne => (resumeTarget_continue count s.ac).trans (if_neg hne)
      rw [exec_of_carried_hostFrame rfl rfl h, hrefused hnone]
    · have hnone := hr.imp_right fun hfar : 32768 ≤ (count - s.ac).toNat =>
        (resumeTarget_rebase count s.ac).trans (if_neg (by omega))
      rw [exec_of_carried_hostFrame rfl rfl h, hrefused hnone]
    · have hnone := resumeTarget_unknown hmode count s.ac
      rw [exec_of_carried_hostFrame rfl rfl h, hrefused (.inr hnone)]

end Sys2Proof.Machine
end

section
/-! PROOF. The bytes of an uplink envelope, one character at a time, do what the whole frame does
(R24 to R26, R174). A byte that does not end the frame only joins the receiver's bytes, and the end
of an event neither reads nor writes the receiver, so a settled hub stays settled until the last
byte. -/

namespace Sys2Proof.Machine

/-! ### The uplink receiver's field -/

/-- Writes the phase of the Uplink Receiver. -/
def setRx (r : UplinkRx) (s : State) : State := { s with rx := r }

section
variable (r : UplinkRx) (s : State)

@[simp] theorem setRx_rx : (setRx r s).rx = r := rfl
@[simp] theorem setRx_bus : (setRx r s).bus = s.bus := rfl
@[simp] theorem setRx_scan : (setRx r s).scan = s.scan := rfl
@[simp] theorem setRx_reports : (setRx r s).reports = s.reports := rfl
@[simp] theorem setRx_slot : (setRx r s).slot = s.slot := rfl
@[simp] theorem setRx_streamPending : (setRx r s).streamPending = s.streamPending := rfl
@[simp] theorem setRx_flowPending : (setRx r s).flowPending = s.flowPending := rfl
@[simp] theorem setRx_progressPending : (setRx r s).progressPending = s.progressPending := rfl
@[simp] theorem setRx_line : (setRx r s).line = s.line := rfl
@[simp] theorem setRx_turn : (setRx r s).turn = s.turn := rfl
@[simp] theorem setRx_decisionDue : (setRx r s).decisionDue = s.decisionDue := rfl
@[simp] theorem port_setRx (p : PortNo) : (setRx r s).port p = s.port p := rfl
@[simp] theorem scanDue_setRx : scanDue (setRx r s) = scanDue s := rfl
@[simp] theorem nextPollPort_setRx : nextPollPort (setRx r s) = nextPollPort s := rfl
@[simp] theorem entryFree_setRx : entryFree (setRx r s) = entryFree s := rfl
@[simp] theorem findHead_setRx (u : Bool) : findHead u (setRx r s) = findHead u s := rfl
@[simp] theorem eligibleHead_setRx (p : PortNo) :
    eligibleHead (setRx r s) p = eligibleHead s p := rfl
@[simp] theorem progressEntries_setRx : progressEntries (setRx r s) = progressEntries s := rfl
@[simp] theorem setRx_setRx (r' : UplinkRx) : setRx r (setRx r' s) = setRx r s := rfl
@[simp] theorem huntUplink_setRx : huntUplink (setRx r s) = huntUplink s := rfl
@[simp] theorem frameReceived_huntUplink : frameReceived (huntUplink s) = frameReceived s := rfl

/-! ### The end of an event neither reads nor writes it -/

theorem evalScan_setRx : evalScan (setRx r s) = setRx r (evalScan s) := by
  unfold evalScan
  rw [scanDue_setRx]
  split <;> rfl

theorem runPending_setRx : runPending (setRx r s) = setRx r (runPending s) := by
  unfold runPending
  rw [setRx_scan]
  split <;> rfl

theorem movePointer_setRx (p : PortNo) : movePointer p (setRx r s) = setRx r (movePointer p s) := by
  unfold movePointer
  rw [port_setRx]
  split <;> rfl

theorem startJob_setRx (k : JobKind) (p : PortNo) :
    startJob k p (setRx r s) = setRx r (startJob k p s) := by
  have hsend : startSending (.job k) p (setRx r s) = setRx r (startSending (.job k) p s) := rfl
  unfold startJob
  rw [hsend, movePointer_setRx]
  split <;> rfl

theorem offerJobs_setRx : offerJobs (setRx r s) = setRx r (offerJobs s) := by
  simp only [offerJobs, findHead_setRx, eligibleHead_setRx]
  split
  · split
    · exact startJob_setRx r s _ _
    · rfl
  · exact evalScan_setRx r { s with alternation := false }

theorem decisionPass_setRx : decisionPass (setRx r s) = setRx r (decisionPass s) := by
  simp only [decisionPass, runPending_setRx, setRx_scan, nextPollPort_setRx, entryFree_setRx]
  split
  · split
    · split
      · rfl
      · exact offerJobs_setRx r _
    · exact offerJobs_setRx r (stopScan true (runPending s))
  · exact offerJobs_setRx r _

theorem decision_setRx : decision (setRx r s) = setRx r (decision s) := by
  simp only [decision, decisionPass_setRx, setRx_scan, setRx_bus]
  split <;> rfl

theorem arbitrate_setRx : arbitrate (setRx r s) = setRx r (arbitrate s) := by
  simp only [arbitrate, decision_setRx, setRx_decisionDue, setRx_bus]
  split <;> rfl

theorem beginProgress_setRx : beginProgress (setRx r s) = setRx r (beginProgress s) := by
  have hclear : ∀ l : List (PortNo × Count),
      l.foldl (fun acc e => clearDirty acc e.1) (setRx r s) =
        setRx r (l.foldl (fun acc e => clearDirty acc e.1) s) := fun _ =>
    List.foldl_hom (setRx r) fun _ _ => rfl
  unfold beginProgress
  rw [progressEntries_setRx, hclear]
  rfl

theorem beginQueueOrProgress_setRx :
    beginQueueOrProgress (setRx r s) = setRx r (beginQueueOrProgress s) := by
  simp only [beginQueueOrProgress, beginProgress_setRx, setRx_reports, setRx_progressPending,
    setRx_turn]
  split
  · split <;> rfl
  · split <;> rfl

theorem choose_setRx : choose (setRx r s) = setRx r (choose s) := by
  simp only [choose, beginQueueOrProgress_setRx, setRx_line, setRx_streamPending,
    setRx_flowPending, setRx_slot]
  split
  · rfl
  · split
    · rfl
    · split
      · rfl
      · split <;> rfl

theorem endEvent_setRx : endEvent (setRx r s) = setRx r (endEvent s) := by
  unfold endEvent
  rw [evalScan_setRx, choose_setRx, arbitrate_setRx, evalScan_setRx]
  rfl

end

theorem settled_setRx {s : State} (h : Settled s) (r : UplinkRx) : Settled (setRx r s) :=
  ⟨h.1, by rw [endEvent_setRx, h.2]⟩

/-! ### Characters one after another -/

theorem feedUplink_cons (b : Byte) (bytes : List Byte) (s : State) :
    feedUplink (b :: bytes) s = feedUplink bytes (event (uplinkChar b false) s) := rfl

/-- A character that does no more than move a settled hub's receiver on. -/
theorem feedUplink_cons_setRx {b : Byte} {s : State} {r : UplinkRx} (h : Settled s)
    (hb : uplinkChar b false s = setRx r s) (bytes : List Byte) :
    feedUplink (b :: bytes) s = feedUplink bytes (setRx r s) := by
  rw [feedUplink_cons, event_of_running h.1, hb, endEvent_setRx, h.2]

/-- START and an in-range LEN begin a frame (R24, R25). -/
theorem feedUplink_start {s : State} (h : Settled s) (hrx : s.rx = .hunt) {len : Byte}
    (hmin : 1 ≤ len.toNat) (hmax : len.toNat ≤ Config.maxLen) (bytes : List Byte) :
    feedUplink (Config.uplinkStart :: len :: bytes) s =
      feedUplink bytes (setRx (.inFrame [len]) s) := by
  have hstart : uplinkChar Config.uplinkStart false s = setRx (.inFrame []) s := by
    rw [uplinkChar, hrx]; rfl
  have hrange : ¬ (false || len == 0#8 || decide (Config.maxLen < len.toNat)) = true := by
    have hne : len ≠ 0#8 := by rintro rfl; cases hmin
    simp [hne, hmax]
  have hlen : uplinkChar len false (setRx (.inFrame []) s) =
      setRx (.inFrame [len]) (setRx (.inFrame []) s) := by
    rw [uplinkChar, setRx_rx]
    exact if_neg hrange
  rw [feedUplink_cons_setRx h hstart, feedUplink_cons_setRx (settled_setRx h _) hlen, setRx_setRx]

theorem uplinkChar_inFrame (b len : Byte) (rest : List Byte) (s : State) :
    uplinkChar b false (setRx (.inFrame (len :: rest)) s) =
      collectByte len (len :: rest ++ [b]) (setRx (.inFrame (len :: rest)) s) := rfl

/-- Bytes short of the second CRC byte are collected (R26). -/
theorem feedUplink_collect {s : State} (h : Settled s) {len : Byte} (bytes last rest : List Byte)
    (hroom : rest.length + bytes.length ≤ len.toNat + 1) :
    feedUplink (bytes ++ last) (setRx (.inFrame (len :: rest)) s) =
      feedUplink last (setRx (.inFrame (len :: rest ++ bytes)) s) := by
  induction bytes generalizing rest with
  | nil => simp
  | cons b bytes ih =>
    have hlen : rest.length + bytes.length + 1 ≤ len.toNat + 1 := by
      simpa [Nat.add_assoc] using hroom
    have hnot : ¬ (len :: rest ++ [b]).length = len.toNat + 3 := by
      simp only [List.length_append, List.length_cons, List.length_nil]; omega
    have hb : uplinkChar b false (setRx (.inFrame (len :: rest)) s) =
        setRx (.inFrame (len :: rest ++ [b])) (setRx (.inFrame (len :: rest)) s) := by
      rw [uplinkChar_inFrame]
      exact if_neg hnot
    rw [List.cons_append, feedUplink_cons_setRx (settled_setRx h _) hb, setRx_setRx,
      List.cons_append, ih (rest ++ [b]) (by simp; omega)]
    simp

/-! ### The last byte of an envelope -/

theorem toNat_byteOf {n : Nat} (h : n ≤ Config.maxLen) : (byteOf n).toNat = n :=
  Nat.mod_eq_of_lt (h.trans_lt (by decide))

/-- What the last byte of an envelope brings: a good frame if the CRC bytes agree, a damaged one if
not (R26). -/
theorem endOfFrame_envelope (body : List Byte) (len : Byte) (crc : BitVec 16) (s : State) :
    endOfFrame body.length (len :: body ++ bytes16 crc) s =
      if crc = crc16 (len :: body) then acceptBody body (huntUplink s)
      else damagedNotice (huntUplink s) := by
  have hlength : (len :: body).length = body.length + 1 := rfl
  have hcovered : (len :: body ++ bytes16 crc).take (body.length + 1) = len :: body :=
    List.take_left' hlength
  have hcrc : (len :: body ++ bytes16 crc).drop (body.length + 1) = bytes16 crc :=
    List.drop_left' hlength
  have hiff : bytes16 (crc16 (len :: body)) = bytes16 crc ↔ crc = crc16 (len :: body) :=
    bytes16_inj.trans eq_comm
  simp only [endOfFrame, hcovered, hcrc, hiff]
  rfl

/-- The second CRC byte completes LEN, the body and the CRC bytes, and so ends the frame (R26). -/
theorem uplinkChar_last {body : List Byte} (hmax : body.length ≤ Config.maxLen) (crc : BitVec 16)
    (s : State) :
    uplinkChar (loByte crc) false
        (setRx (.inFrame (byteOf body.length :: (body ++ [hiByte crc]))) s) =
      if crc = crc16 (byteOf body.length :: body) then acceptBody body (huntUplink s)
      else damagedNotice (huntUplink s) := by
  have hlen := toNat_byteOf hmax
  have hbytes : byteOf body.length :: (body ++ [hiByte crc]) ++ [loByte crc] =
      byteOf body.length :: body ++ bytes16 crc := by simp [bytes16]
  have hfull : (byteOf body.length :: body ++ bytes16 crc).length = body.length + 3 := by
    simp [bytes16]
  rw [uplinkChar_inFrame, collectByte, hbytes, hlen, if_pos hfull, endOfFrame_envelope,
    huntUplink_setRx]

/-- Settles O11: START and LEN begin the frame, the bytes up to the first CRC byte are collected,
and the second CRC byte ends it. -/
theorem bytesMakeTheEnvelope : Obligations.BytesMakeTheEnvelope := by
  intro body crc s hmin hmax h hrx
  have hlen : (byteOf body.length).toNat = body.length := toNat_byteOf hmax
  have hsplit : body ++ bytes16 crc = (body ++ [hiByte crc]) ++ [loByte crc] := by simp [bytes16]
  calc feedUplink (Config.uplinkStart :: byteOf body.length :: (body ++ bytes16 crc)) s
      = feedUplink ((body ++ [hiByte crc]) ++ [loByte crc])
          (setRx (.inFrame [byteOf body.length]) s) := by
        rw [feedUplink_start h hrx (by omega) (by rw [hlen]; exact hmax), hsplit]
    _ = feedUplink [loByte crc]
          (setRx (.inFrame (byteOf body.length :: (body ++ [hiByte crc]))) s) :=
        feedUplink_collect h _ _ [] (by simp [hlen])
    _ = .next (endEvent
          (if crc = crc16 (byteOf body.length :: body) then acceptBody body (huntUplink s)
          else damagedNotice (huntUplink s))) := by
        rw [feedUplink_cons, event_of_running (settled_setRx h _).1, uplinkChar_last hmax]
        rfl
    _ = exec (.damagedFrame body crc) s := (exec_damagedFrame h.1 hmin hmax crc).symm

/-! ### Whole host frames -/

/-- LEN of a host frame within its data bound is in range (R25, R33). -/
theorem length_body_le {f : HostFrame} (h : frameBounded f = true) :
    f.body.length ≤ Config.maxLen := by
  cases f with
  | job k stamp port data =>
    have hdata : data.length ≤ 24 := of_decide_eq_true h
    simp only [HostFrame.body, HostFrame.fieldBytes, bytes16, List.length_cons, List.length_append,
      List.length_nil, Config.maxLen]
    omega
  | _ => simp [HostFrame.body, HostFrame.fieldBytes, bytes16, OpenParams.bytes, Config.maxLen]

theorem frameBounded_of_carried {c : Instr} {f : HostFrame} (hf : hostFrameOf c = some f)
    (hc : c.carried = true) : frameBounded f = true := by
  cases c with
  | send | call | fetch => cases hf; exact hc
  | _ => cases hf <;> rfl

/-- Settles O10: the bytes do what the DAMAGED_FRAME command with the agreeing CRC does, whose body
reads back as the frame. -/
theorem bytesMakeTheFrame : Obligations.BytesMakeTheFrame := by
  intro c f s hf hc h hrx
  have hbounded := frameBounded_of_carried hf hc
  have hmin : 1 ≤ f.body.length := Nat.succ_pos _
  have hmax := length_body_le hbounded
  have haccept : acceptBody f.body (huntUplink s) = serve f (frameReceived s) := by
    rw [acceptBody, decodeFrame_body hbounded]
    exact congrArg (serve f) (frameReceived_huntUplink s)
  calc feedUplink (uplinkEnvelope f.body) s
      = exec (.damagedFrame f.body (crc16 (byteOf f.body.length :: f.body))) s :=
        bytesMakeTheEnvelope f.body _ s hmin hmax h hrx
    _ = .next (endEvent (serve f (frameReceived s))) := by
        rw [exec_damagedFrame h.1 hmin hmax, if_pos rfl, haccept]
    _ = exec c s := (exec_of_carried_hostFrame hf hc h.1).symm

end Sys2Proof.Machine
end

section
/-! PROOF. What a step can do, said once (`Change`): within an event the hub moves (`Move`), and then
the event ends; a change of RESET is no event. A law of every step is shown move by move. -/

namespace Sys2Proof.Machine

-- One proof is elaborated at a time: many at once would each hold a thread's stack.
set_option Elab.async false

/-! ### Moves within an event -/

/-- What a command can do within an event. A trigger is named where the move needs it. -/
inductive Move (s : State) : State → Prop where
  | receives (rx : UplinkRx) : Move s { s with rx := rx }
  | hearsNoise : Move s (bump .noise s)
  | serves (f : HostFrame) : Move s (acceptFrame f s)
  | findsMalformed : Move s (malformed (frameReceived s))
  | findsDamaged : Move s (damagedNotice s)
  | losesLink : Move s (silenceExpires s)
  | freesLine : Move s { s with line := .free }
  | hearsPair (c : LineChar) : Move s (withFlags (tribChar c) s)
  | hearsFrame (address kind : Byte) (data : List Byte) :
      Move s (withFlags (fun s => goodTribFrame address kind data (huntTrib s)) s)
  | hearsGap : Move s (withFlags tribGapExpires s)
  | sentPost (h : sendingPost s = true) : Move s (withFlags postSent s)
  | sentCommand (h : sendingCommand s = true ∨ sendingPoll s = true) : Move s (commandSent s)
  | meetsDeadline (h : deadlineRuns s = true) : Move s (withFlags deadlineExpires s)
  | endsBusyWait (p : PortNo) : Move s (callArbiter (stopBusyWait p s))
  | endsQuiet (h : busQuiet s = true) : Move s (dropTransaction s)
  | releasesPair : Move s (releasePair s)
  | sensesAttn (asserted : Bool) : Move s (setAttn asserted s)

/-- Moves one after another. -/
abbrev Moves : State → State → Prop := Relation.ReflTransGen Move

theorem Move.then {s t u : State} (h : Move s t) (h' : Moves t u) : Moves s u := h'.head h

theorem moves_acceptBody (body : List Byte) (s : State) : Moves s (acceptBody body s) := by
  unfold acceptBody
  split
  · exact .single (.serves _)
  · exact .single .findsMalformed

theorem moves_damagedNotice_hunt (s : State) : Moves s (damagedNotice (huntUplink s)) :=
  (Move.receives .hunt).then (.single .findsDamaged)

theorem moves_acceptBody_hunt (body : List Byte) (s : State) :
    Moves s (acceptBody body (huntUplink s)) :=
  (Move.receives .hunt).then (moves_acceptBody body _)

theorem moves_noise_hunt (s : State) : Moves s (bump .noise (huntUplink s)) :=
  (Move.receives .hunt).then (.single .hearsNoise)

theorem moves_huntByte (b : Byte) (ferr : Bool) (s : State) : Moves s (huntByte b ferr s) := by
  unfold huntByte
  split
  · exact moves_noise_hunt s
  · exact .single (.receives _)

theorem moves_collectByte (len : Byte) (bytes : List Byte) (s : State) :
    Moves s (collectByte len bytes s) := by
  unfold collectByte
  split
  · unfold endOfFrame
    split
    · exact moves_acceptBody_hunt _ s
    · exact moves_damagedNotice_hunt s
  · exact .single (.receives _)

theorem moves_uplinkChar (b : Byte) (ferr : Bool) (s : State) : Moves s (uplinkChar b ferr s) := by
  unfold uplinkChar
  split
  · exact moves_huntByte b ferr s
  · split
    · exact Move.hearsNoise.then (moves_huntByte b ferr _)
    · exact .single (.receives _)
  · split
    · exact moves_damagedNotice_hunt s
    · exact moves_collectByte _ _ s

theorem moves_tGapExpires (s : State) : Moves s (tGapExpires s) := by
  unfold tGapExpires
  split
  · exact .refl
  · exact moves_noise_hunt s
  · exact moves_damagedNotice_hunt s

/-! ### Changes from event to event -/

/-- What a command can do from event to event. -/
inductive Change (s : State) : State → Prop where
  | event {u : State} (hrun : s.resetHeld = false) (h : Moves s u) : Change s (endEvent u)
  | attnWhileHeld (asserted : Bool) (hheld : s.resetHeld = true) : Change s (setAttn asserted s)
  | resetAsserted : Change s (pinReset s.rate true s)
  | resetReleased (rate : Rate) : Change s (endEvent (pinReset rate false s))

/-- Changes one after another. -/
abbrev Changes : State → State → Prop := Relation.ReflTransGen Change

theorem changes_event {f : State → State} {s : State} (h : Moves s (f s)) :
    Changes s (event f s) := by
  obtain ⟨-, h'⟩ | ⟨hrun, h'⟩ := event_cases f s
  · rw [h']
  · rw [h']; exact .single (.event hrun h)

theorem changes_eventIf {occurs : State → Bool} {f : State → State} {s : State}
    (h : occurs s = true → Moves s (f s)) : Changes s (eventIf occurs f s) := by
  obtain h' | ⟨hoccurs, hrun, h'⟩ := eventIf_cases occurs f s
  · rw [h']
  · rw [h']; exact .single (.event hrun (h hoccurs))

theorem changes_tribCharEvent (c : LineChar) (s : State) : Changes s (tribCharEvent c s) :=
  changes_eventIf fun _ => .single (.hearsPair c)

theorem changes_tribChars (chars : List LineChar) (s : State) :
    Changes s (chars.foldl (fun acc c => tribCharEvent c acc) s) := by
  induction chars generalizing s with
  | nil => exact .refl
  | cons c chars ih => exact (changes_tribCharEvent c s).trans (ih _)

theorem changes_tribFrameArrives (address kind : Byte) (data : List Byte) (s : State) :
    Changes s (tribFrameArrives address kind data s) := by
  have hframe {occurs : State → Bool} (u : State) : Changes u (eventIf occurs
      (withFlags fun s => goodTribFrame address kind data (huntTrib s)) u) :=
    changes_eventIf fun _ => .single (.hearsFrame address kind data)
  unfold tribFrameArrives
  split
  · exact (changes_tribCharEvent _ s).trans (hframe _)
  · exact hframe s

/-- A command that brings no whole frame: a character, the end of a frame, a timer or a pin. -/
theorem changes_exec_of_noFrame {c : Instr} (hhost : hostFrameOf c = none)
    (hgood : goodFrameOf c = none) (s : State) :
    ∃ t, Changes s t ∧ exec c s = if c.carried then .next t else .refused .illFormed := by
  cases c with
  | noise byte ferr | outOfRangeLen byte ferr =>
    exact ⟨_, changes_event (moves_uplinkChar byte ferr s), rfl⟩
  | framingError byte => exact ⟨_, changes_event (moves_uplinkChar byte true s), rfl⟩
  | tgapExpiry => exact ⟨_, changes_eventIf fun _ => moves_tGapExpires s, rfl⟩
  | damagedFrame body crc =>
    refine ⟨_, changes_event ?_, rfl⟩
    split
    · exact moves_acceptBody_hunt body s
    · exact moves_damagedNotice_hunt s
  | malformedFrame body => exact ⟨_, changes_event (moves_acceptBody body s), rfl⟩
  | silenceTimerExpiry => exact ⟨_, changes_eventIf fun _ => .single .losesLink, rfl⟩
  | endOfTransmission => exact ⟨_, changes_eventIf fun _ => .single .freesLine, rfl⟩
  | sendEndOfSending => exact ⟨_, changes_eventIf fun h => .single (.sentPost h), rfl⟩
  | commandEndOfSending => exact ⟨_, changes_eventIf fun h => .single (.sentCommand (.inl h)), rfl⟩
  | pollEndOfSending => exact ⟨_, changes_eventIf fun h => .single (.sentCommand (.inr h)), rfl⟩
  | deadlineMet address =>
    refine ⟨_, ?_, rfl⟩
    cases address with
    | none => exact changes_tribCharEvent _ s
    | some a =>
      refine Relation.ReflTransGen.trans ?_ (changes_tribCharEvent _ _)
      split
      · exact .refl
      · exact changes_tribCharEvent _ s
  | tributaryDamagedFrame chars => exact ⟨_, changes_tribChars chars s, rfl⟩
  | tributaryCharacterGapExpiry => exact ⟨_, changes_eventIf fun _ => .single .hearsGap, rfl⟩
  | deadlineExpiry => exact ⟨_, changes_eventIf fun h => .single (.meetsDeadline h), rfl⟩
  | busyWaitExpiry p => exact ⟨_, changes_eventIf fun _ => .single (.endsBusyWait p), rfl⟩
  | tquietExpiry => exact ⟨_, changes_eventIf fun h => .single (.endsQuiet h), rfl⟩
  | abandonedCharacterEnd => exact ⟨_, changes_eventIf fun _ => .single .releasesPair, rfl⟩
  | attnChange asserted =>
    refine ⟨_, ?_, rfl⟩
    split
    case isTrue hheld => exact .single (.attnWhileHeld asserted hheld)
    case isFalse => exact changes_eventIf fun _ => .single (.sensesAttn asserted)
  | resetAsserted => exact ⟨_, .single .resetAsserted, rfl⟩
  | resetReleased rate1 rate0 => exact ⟨_, .single (.resetReleased _), rfl⟩
  | replyDone | replyBusy | replyRefused | replyEvent | replyNone
  | tributaryOtherFrame => cases hgood
  | _ => cases hhost

/-- The next state that a command answers is reached by changes. -/
theorem changes_exec (c : Instr) (s : State) :
    ∃ t, Changes s t ∧ exec c s = if c.carried then .next t else .refused .illFormed := by
  cases hhost : hostFrameOf c with
  | some f => exact ⟨_, changes_event (.single (.serves f)), exec_of_hostFrame hhost s⟩
  | none =>
    cases hgood : goodFrameOf c with
    | some frame =>
      obtain ⟨address, kind, data⟩ := frame
      exact ⟨_, changes_tribFrameArrives address kind data s, exec_of_goodFrame hgood s⟩
    | none => exact changes_exec_of_noFrame hhost hgood s

/-- A step takes its command from the queue and then changes the hub. -/
theorem changes_step {s t : State} (h : step s = .next t) :
    ∃ rest, Changes { s with pending := rest } t := by
  unfold step at h
  split at h
  · exact ⟨s.pending, Host.Outcome.next.inj h ▸ .refl⟩
  case h_2 c rest _ =>
    obtain ⟨u, hu, hexec⟩ := changes_exec c { s with pending := rest }
    rw [hexec] at h
    split at h
    · exact ⟨rest, Host.Outcome.next.inj h ▸ hu⟩
    · cases h

/-- A law `P` of every step: `Q` is what remains of it within an event. -/
theorem step_keeps_of_moves {P Q : State → Prop}
    (hpending : ∀ s rest, P s → P { s with pending := rest })
    (hbegin : ∀ s, P s → Q s) (hmove : ∀ s t, Move s t → Q s → Q t)
    (hend : ∀ s, Q s → P (endEvent s)) (hattn : ∀ asserted s, P s → P (setAttn asserted s))
    (hreset : ∀ rate s, P (pinReset rate true s) ∧ Q (pinReset rate false s))
    {s t : State} (hs : P s) (h : step s = .next t) : P t := by
  have hmoves : ∀ u v, Moves u v → Q u → Q v := fun u v huv hu => by
    induction huv with
    | refl => exact hu
    | tail _ hstep ih => exact hmove _ _ hstep ih
  have hchange : ∀ u v, Change u v → P u → P v := fun u v huv hu => by
    cases huv with
    | event _ h => exact hend _ (hmoves u _ h (hbegin u hu))
    | attnWhileHeld asserted _ => exact hattn asserted u hu
    | resetAsserted => exact (hreset u.rate u).1
    | resetReleased rate => exact hend _ (hreset rate u).2
  obtain ⟨rest, hsteps⟩ := changes_step h
  have hs' := hpending s rest hs
  clear h
  induction hsteps with
  | refl => exact hs'
  | tail _ hstep ih => exact hchange _ _ hstep ih

end Sys2Proof.Machine
end

section
/-! PROOF. Counted frames at AC in RUN (chapter 3): what the checks of each type decide, in their
order, and what an admitted frame leaves (R51, R55, R58 to R65). -/

namespace Sys2Proof.Machine

/-! ### The three outcomes -/

theorem entryFree_iff (s : State) : entryFree s = true ↔ entriesInUse s < 32 := decide_eq_true_iff

theorem entryFree_eq_false {s : State} (h : 32 ≤ entriesInUse s) : entryFree s = false :=
  decide_eq_false (Nat.not_lt.mpr h)

theorem counted_atAC {s : State} (hs : s.stream = .run) (ty : Byte) (verdict : State → Verdict)
    (effect : State → State) :
    counted s.ac ty verdict effect s = admission s.ac ty (verdict s) effect s := by
  simp only [counted, hs, if_true]

theorem admission_reject (stamp : Count) (ty : Byte) (r : RejectReason) (effect : State → State)
    (s : State) : admission stamp ty (.reject r) effect s = rejected stamp ty r s := by
  unfold rejected
  split
  case isTrue h => exact if_pos ((entryFree_iff s).mpr h)
  case isFalse h => exact if_neg (mt (entryFree_iff s).mp h)

/-- The command brings at AC in RUN a counted frame of this TYPE, with these checks and this effect.
The checks read nothing that the reception of a frame writes. -/
structure AtAC (c : Instr) (ty : Byte) (verdict : State → Verdict) (effect : State → State)
    (s : State) : Prop where
  running : s.resetHeld = false
  inRun : s.stream = .run
  carried : c.carried = true
  served : ∃ f, hostFrameOf c = some f ∧ serve f = counted s.ac ty verdict effect
  reads : verdict (frameReceived s) = verdict s

section
variable {c : Instr} {ty : Byte} {verdict : State → Verdict} {effect : State → State} {s : State}

/-- The admission event of the frame follows its reception. -/
theorem AtAC.exec_eq (h : AtAC c ty verdict effect s) :
    exec c s =
      .next (endEvent (admission s.ac ty (verdict s) effect (frameReceived s))) := by
  obtain ⟨f, hf, hserve⟩ := h.served
  have hrun : (frameReceived s).stream = .run := h.inRun
  rw [exec_of_carried_hostFrame hf h.carried h.running, hserve, ← h.reads]
  exact congrArg (Host.Outcome.next ∘ endEvent) (counted_atAC hrun ty verdict effect)

theorem AtAC.rejected (h : AtAC c ty verdict effect s) {r : RejectReason}
    (hv : verdict s = .reject r) :
    exec c s = .next (endEvent (rejected s.ac ty r (frameReceived s))) := by
  rw [h.exec_eq, hv, admission_reject]

theorem AtAC.refused (h : AtAC c ty verdict effect s) {d : NoRoom} (hv : verdict s = .refuse d) :
    exec c s = .next (endEvent (refusedFor d (frameReceived s))) := by
  rw [h.exec_eq, hv]; rfl

theorem AtAC.admitted (h : AtAC c ty verdict effect s) (hv : verdict s = .accept) {v : State}
    (heffect : admitted effect (frameReceived s) = v) : exec c s = .next (endEvent v) := by
  rw [h.exec_eq, hv, ← heffect]; rfl

end

/-! ### What an admitted effect leaves -/

/-- An effect counts by what it makes of the state it meets. -/
theorem admitted_congr {f g : State → State} {s : State} (h : f s = g s) :
    admitted f s = admitted g s := by
  rw [admitted, admitted, withFlags, withFlags, h]

/-- An event that changes no occupancy, free count or reserve leaves the flags alone (R5, R13). -/
theorem withFlags_of_occupancies_eq {f : State → State} {s : State}
    (hocc : ∀ p, ((f s).port p).queue.length = (s.port p).queue.length)
    (hfree : (f s).free = s.free) (hreserve : (f s).poolReserve = s.poolReserve) :
    withFlags f s = f s := by
  have hcongestion : ∀ p, evalCongestion s (f s) p = f s := fun p => if_pos (.inl (hocc p))
  rw [withFlags, List.foldl_fixed' hcongestion, evalPoolLow, if_pos ⟨hfree, hreserve⟩]

theorem appendItem_eq (it : Item) (s : State) (p : PortNo) :
    appendItem it s p =
      { modPort p (fun x => { x with queue := x.queue ++ [it] }) s with
        free := s.free - 1
        decisionDue := s.decisionDue || (s.port p).queue.isEmpty } := by
  have hset : setQueue p ((s.port p).queue ++ [it]) s =
      { modPort p (fun x => { x with queue := x.queue ++ [it] }) s with free := s.free - 1 } := by
    have hfree : s.free + (s.port p).queue.length - ((s.port p).queue ++ [it]).length =
        s.free - 1 := by
      rw [List.length_append, List.length_singleton]; omega
    rw [setQueue, hfree]; rfl
  unfold appendItem
  dsimp only
  rw [hset]
  cases (s.port p).queue.isEmpty
  · rw [Bool.or_false]; rfl
  · rw [Bool.or_true]; rfl

theorem openPort_eq (p : PortNo) (stamp : Count) (params : OpenParams) (s : State) :
    openPort p stamp params s =
      { modPort p (fun y => { y with
          state := .opened, params := params, busyWait := none, settled := stamp,
          dirty := true }) s with
        progressPending := true } := by
  rw [openPort, writeSettled, modPort_modPort]; rfl

theorem onPort_of_port {port : Byte} {p : PortNo} (hp : portOfByte port = some p)
    (f : PortNo → State → State) (s : State) : onPort port f s = f p s := by
  rw [onPort, hp]

/-! ### Port bytes and port states -/

theorem portOfByte_eq {b : Byte} {p : PortNo} (h : b.toNat = p.val) : portOfByte b = some p := by
  rw [portOfByte_of_lt (h ▸ p.isLt)]
  exact congrArg some (Fin.ext h)

theorem admits_of_open {x : Port} (h : x.state = .opened ∨ ∃ f, x.state = .faulted f) :
    x.admits = true := by
  obtain h | ⟨f, h⟩ := h
  · rw [Port.admits, h]
  · rw [Port.admits, h]

theorem admits_eq_false {x : Port} (h : x.state = .closed ∨ ∃ c, x.state = .closing c) :
    x.admits = false := by
  obtain h | ⟨c, h⟩ := h
  · rw [Port.admits, h]
  · rw [Port.admits, h]

/-! ### SEND, CALL and FETCH -/

theorem jobVerdict_of_none {port : Byte} (hp : portOfByte port = none) (s : State) :
    jobVerdict port s = .reject .badPort := by
  rw [jobVerdict, hp]

theorem jobVerdict_of_port {port : Byte} {p : PortNo} (hp : portOfByte port = some p) (s : State) :
    jobVerdict port s =
      if !(s.port p).admits then .reject .notOpen
      else if (s.port p).params.quota.toNat ≤ (s.port p).queue.length then .refuse .quota
      else if s.free = 0 then .refuse .pool
      else .accept := by
  rw [jobVerdict, hp]

/-- Settles O20: the four checks in the order of `jobVerdict`, and the item appended. -/
theorem jobAdmission : Obligations.JobAdmission := by
  intro k port data s h hs hdata u run hu hrun
  subst hu hrun
  have hjob : AtAC (jobCommand k s.ac port data) k.code (jobVerdict port)
      (jobEffect k s.ac port data) s := by
    have hcarried : data.length ≤ Config.maxData := hdata
    refine ⟨h, hs, ?_, ⟨.job k s.ac port data, ?_, rfl⟩, rfl⟩
    · cases k <;> exact decide_eq_true hcarried
    · cases k <;> rfl
  refine ⟨fun hport => hjob.rejected (jobVerdict_of_none (portOfByte_of_ge hport) s),
    fun p hport => ?_⟩
  have hp := portOfByte_eq hport
  have hverdict := jobVerdict_of_port hp s
  refine ⟨fun hstate => hjob.rejected ?_, fun hstate => ?_⟩
  · rw [hverdict, admits_eq_false hstate]; rfl
  rw [admits_of_open hstate] at hverdict
  refine ⟨fun hquota => hjob.refused (hverdict.trans (if_pos hquota)), fun hquota => ?_⟩
  rw [if_neg (Nat.not_le.mpr hquota)] at hverdict
  refine ⟨fun hfree => hjob.refused (hverdict.trans (if_pos hfree)), fun hfree =>
    hjob.admitted (hverdict.trans (if_neg hfree.ne')) (admitted_congr ?_)⟩
  rw [jobEffect, onPort_of_port hp, appendItem_eq, port_frameReceived]

/-! ### FENCE -/

theorem freeFence_eq_none_iff (s : State) : freeFence s = none ↔ ∀ i, s.fence i ≠ .free := by
  simp [freeFence, mem_allFences]

theorem fenceVerdict_badMembers {m : PortSet} {s : State}
    (h : (members m).length < 2 ∨ ∃ p ∈ members m, (s.port p).admits = false) :
    fenceVerdict m s = .reject .badMembers := if_pos (by simpa using h)

theorem fenceVerdict_of_members {m : PortSet} {s : State} (hmin : 2 ≤ (members m).length)
    (hmembers : ∀ p ∈ members m, (s.port p).admits = true) :
    fenceVerdict m s =
      if (freeFence s).isNone then .refuse .fenceTable
      else if (members m).any fun p =>
          decide ((s.port p).params.quota.toNat ≤ (s.port p).queue.length) then .refuse .quota
      else if s.free < (members m).length then .refuse .pool
      else if !entryFree s then .refuse .reports
      else .accept := by
  refine if_neg ?_
  simpa [Nat.lt_of_succ_le hmin] using hmembers

/-- Settles O21: the five checks in the order of `fenceVerdict`. -/
theorem fenceAdmission : Obligations.FenceAdmission := by
  intro m s h hs u run hu hrun
  subst hu hrun
  have hfence : AtAC (.fence s.ac m) 0x24#8 (fenceVerdict m) (placeFence s.ac m) s :=
    ⟨h, hs, rfl, ⟨_, rfl, rfl⟩, rfl⟩
  refine ⟨fun hbad => hfence.rejected (fenceVerdict_badMembers
    (hbad.imp_right fun ⟨p, hp, hstate⟩ => ⟨p, hp, admits_eq_false hstate⟩)), fun hmin hopen => ?_⟩
  have hverdict := fenceVerdict_of_members hmin fun p hp => admits_of_open (hopen p hp)
  refine ⟨fun hfull => hfence.refused ?_, fun ⟨i, hi⟩ => ?_⟩
  · rw [hverdict, (freeFence_eq_none_iff s).mpr hfull]; rfl
  have htable : ¬ (freeFence s).isNone := fun hnone =>
    (freeFence_eq_none_iff s).mp (Option.isNone_iff_eq_none.mp hnone) i hi
  rw [if_neg htable] at hverdict
  refine ⟨fun hquota => hfence.refused (hverdict.trans (if_pos ?_)), fun hquota => ?_⟩
  · simpa only [List.any_eq_true, decide_eq_true_eq] using hquota
  rw [if_neg (by simpa only [List.any_eq_true, decide_eq_true_eq, not_exists, not_and, not_le]
    using hquota)] at hverdict
  refine ⟨fun hpool => hfence.refused (hverdict.trans (if_pos hpool)), fun hpool => ?_⟩
  rw [if_neg (Nat.not_lt.mpr hpool)] at hverdict
  refine ⟨fun hfull => hfence.refused ?_, fun hroom => hfence.admitted ?_ rfl⟩
  · rw [hverdict, entryFree_eq_false hfull]; rfl
  · rw [hverdict, (entryFree_iff s).mpr hroom]; rfl

/-! ### MARK -/

theorem isCode01_eq_false {b : Byte} (h : 2 ≤ b.toNat) : isCode01 b = false :=
  decide_eq_false (Nat.not_le.mpr h)

theorem markEffect_eq (stamp : Count) (echo : Byte) (s : State) :
    markEffect stamp echo s =
      { s with
        reports := (markEffect stamp echo s).reports
        nextRC := (markEffect stamp echo s).nextRC } := by
  unfold markEffect; split <;> rfl

/-- The effect of a MARK touches no queue, so no flag (R5, R13). -/
theorem admitted_markEffect (stamp : Count) (echo : Byte) (s : State) :
    admitted (markEffect stamp echo) s = { markEffect stamp echo s with ac := s.ac + 1#16 } := by
  have heffect := markEffect_eq stamp echo s
  rw [admitted, withFlags_of_occupancies_eq, heffect]
  · intro p; rw [heffect]; rfl
  · rw [heffect]
  · rw [heffect]

/-- Settles O23: the echo flag is of no code, no, or yes without or with a free entry. -/
theorem markAdmission : Obligations.MarkAdmission := by
  intro echo s h hs u hu
  subst hu
  have hmark : AtAC (.mark s.ac echo) 0x25#8 (markVerdict echo) (markEffect s.ac echo) s :=
    ⟨h, hs, rfl, ⟨_, rfl, rfl⟩, rfl⟩
  have hleaves := admitted_markEffect s.ac echo (frameReceived s)
  refine ⟨fun hecho => hmark.rejected ?_, fun hecho => ?_, fun hecho hfull => ?_,
    fun hecho hroom => ?_⟩
  · rw [markVerdict, isCode01_eq_false hecho]; rfl
  · subst hecho
    exact hmark.admitted rfl hleaves
  · subst hecho
    exact hmark.refused (by rw [markVerdict, entryFree_eq_false hfull]; rfl)
  · subst hecho
    exact hmark.admitted (by rw [markVerdict, (entryFree_iff s).mpr hroom]; rfl) hleaves

/-! ### SETUP -/

theorem setupVerdict_badParam {reserve enable : Byte} (h : 95 < reserve.toNat ∨ 2 ≤ enable.toNat) :
    setupVerdict reserve enable = .reject .badParam := by
  refine if_neg fun hrange => ?_
  simp only [isCode01, Bool.and_eq_true, decide_eq_true_eq] at hrange
  omega

theorem setupVerdict_inRange {reserve enable : Byte} (hreserve : reserve.toNat ≤ 95)
    (henable : enable.toNat ≤ 1) : setupVerdict reserve enable = .accept :=
  if_pos (by simp [isCode01, hreserve, henable])

/-- Where the link is LIVE, the silence timer takes the new interval, or stops for the code 0
(R29). -/
theorem setupEffect_live {s : State} (h : s.link = .live) (code reserve enable : Byte) :
    setupEffect code reserve enable s =
      writeScanEnable (isYes enable)
        { s with
          silenceCode := code
          silenceTimer := if code = 0#8 then none else some (10 * code.toNat)
          poolReserve := reserve } := by
  rw [setupEffect, if_pos h]

theorem setupAdmission : Sys2Proof.Claim.SetupAdmission := by
  intro code reserve enable s h hs u hu
  subst hu
  have hsetup : AtAC (.setup s.ac code reserve enable) 0x28#8
      (fun _ => setupVerdict reserve enable) (setupEffect code reserve enable) s :=
    ⟨h, hs, rfl, ⟨_, rfl, rfl⟩, rfl⟩
  have hlive : (frameReceived s).link = .live := rfl
  exact ⟨fun hbad => hsetup.rejected (setupVerdict_badParam hbad), fun hreserve henable =>
    hsetup.admitted (setupVerdict_inRange hreserve henable)
      (admitted_congr (setupEffect_live hlive code reserve enable))⟩

theorem pollInFlight_iff (s : State) :
    pollInFlight s = true ↔
      (∃ t, s.bus = .sending t ∧ t.kind = .poll) ∨
        ∃ t d, s.bus = .awaiting t d ∧ t.kind = .poll := by
  unfold pollInFlight
  split
  case h_1 t hbus => simp [hbus]
  case h_2 t d hbus => simp [hbus]
  case h_3 hsending hawaiting =>
    refine ⟨nofun, ?_⟩
    rintro (⟨t, hbus, -⟩ | ⟨t, d, hbus, -⟩)
    · exact absurd hbus (hsending t)
    · exact absurd hbus (hawaiting t d)

/-- A scan that is RUNNING with a poll in flight outlives the write of the enable (R135). -/
theorem scanEnableWrite : Sys2Proof.Claim.ScanEnableWrite := by
  intro on s
  refine ⟨fun hsame => if_pos hsame, fun hon hoff => ?_, fun hoff hon => ?_⟩
  · rw [writeScanEnable, if_neg (by rw [hon, hoff]; nofun), hon]; rfl
  · have hchange : ¬ on = s.scanEnable := by rw [hon, hoff]; nofun
    subst hoff
    have hcond : (false || (s.scan == .running && pollInFlight s)) = true ↔
        s.scan = .running ∧ ((∃ t, s.bus = .sending t ∧ t.kind = .poll) ∨
          ∃ t d, s.bus = .awaiting t d ∧ t.kind = .poll) := by
      rw [Bool.false_or, Bool.and_eq_true, beq_iff_eq, pollInFlight_iff]
    refine ⟨fun hpoll => ?_, fun hpoll => ?_⟩
    · rw [writeScanEnable, if_neg hchange, if_pos (hcond.mpr hpoll)]; rfl
    · rw [writeScanEnable, if_neg hchange, if_neg (mt hcond.mp hpoll)]; rfl

/-- Settles O24: the check and effect of SETUP, and the cases of the write of the enable. -/
theorem setupAndScanEnable : Obligations.SetupAndScanEnable := ⟨setupAdmission, scanEnableWrite⟩

/-! ### OPEN -/

theorem bound_eq_some {x : Port} {a : Byte} :
    x.bound = some a ↔ x.state ≠ .closed ∧ x.params.address = a := by
  unfold Port.bound
  split
  case h_1 h => simp [h]
  case h_2 h => simp [show x.state ≠ .closed from h]

theorem addressTaken_iff (p : PortNo) (a : Byte) (s : State) :
    addressTaken p a s = true ↔ ∃ q, q ≠ p ∧ (s.port q).bound = some a := by
  simp [addressTaken, mem_allPorts]

theorem openVerdict_of_none {port : Byte} (hp : portOfByte port = none) (params : OpenParams)
    (s : State) : openVerdict port params s = .reject .badPort := by
  rw [openVerdict, hp]

theorem openVerdict_of_port {port : Byte} {p : PortNo} (hp : portOfByte port = some p)
    (params : OpenParams) (s : State) :
    openVerdict port params s =
      if (s.port p).state ≠ .closed then .reject .notClosed
      else if !paramsInRange params then .reject .badParam
      else if addressTaken p params.address s then .reject .addrTaken
      else .accept := by
  rw [openVerdict, hp]

theorem openVerdict_frameReceived (port : Byte) (params : OpenParams) (s : State) :
    openVerdict port params (frameReceived s) = openVerdict port params s := by
  cases hp : portOfByte port with
  | none => rw [openVerdict_of_none hp, openVerdict_of_none hp]
  | some p =>
    have htaken : addressTaken p params.address (frameReceived s) =
        addressTaken p params.address s := by
      simp only [addressTaken, port_frameReceived]
    rw [openVerdict_of_port hp, openVerdict_of_port hp, port_frameReceived, htaken]

theorem paramsInRange_iff (x : OpenParams) :
    paramsInRange x = true ↔
      (1 ≤ x.address.toNat ∧ x.address.toNat ≤ 30 ∧
        1 ≤ x.quota.toNat ∧ x.quota.toNat ≤ 96 ∧
        1 ≤ x.highMark.toNat ∧ x.highMark.toNat ≤ x.quota.toNat ∧
        x.lowMark.toNat < x.highMark.toNat ∧
        1 ≤ x.replyTimeout.toNat ∧ x.retries.toNat ≤ 7 ∧ 1 ≤ x.busyWait.toNat ∧
        x.busyLimit.toNat ≤ 15 ∧ x.urgent.toNat ≤ 1 ∧ x.listen.toNat ≤ 1) := by
  simp only [paramsInRange, isCode01, Bool.and_eq_true, decide_eq_true_eq, Nat.succ_le_iff,
    and_assoc]

/-- Opening a port changes no occupancy, so no flag (R5, R13). -/
theorem admitted_openPort {port : Byte} {p : PortNo} (hp : portOfByte port = some p)
    (stamp : Count) (params : OpenParams) (s : State) :
    admitted (onPort port fun p s => openPort p stamp params s) s =
      { openPort p stamp params s with ac := s.ac + 1#16 } := by
  have heffect := onPort_of_port hp (fun p s => openPort p stamp params s) s
  have hqueue : ∀ q, ((openPort p stamp params s).port q).queue.length =
      (s.port q).queue.length := fun q => by
    rw [port_openPort]
    split
    · subst q; rfl
    · rfl
  rw [admitted, withFlags_of_occupancies_eq, heffect]
  · rfl
  · rw [heffect]; exact hqueue
  · rw [heffect]; rfl
  · rw [heffect]; rfl

/-- Settles O25: the four checks in the order of `openVerdict`, and the port that opens. -/
theorem openAdmission : Obligations.OpenAdmission := by
  intro port x s h hs u run hu hrun
  subst hu hrun
  have hopenFrame : AtAC (.openPort s.ac port x) 0x26#8 (openVerdict port x)
      (onPort port fun p v => openPort p s.ac x v) s :=
    ⟨h, hs, rfl, ⟨_, rfl, rfl⟩, openVerdict_frameReceived port x s⟩
  refine ⟨fun hport => hopenFrame.rejected (openVerdict_of_none (portOfByte_of_ge hport) x s),
    fun p hport => ?_⟩
  have hp := portOfByte_eq hport
  have hverdict := openVerdict_of_port hp x s
  refine ⟨fun hopen => hopenFrame.rejected (hverdict.trans (if_pos hopen)),
    fun hclosed inRange hrange => ?_⟩
  rw [if_neg (not_not.mpr hclosed)] at hverdict
  rw [← paramsInRange_iff] at hrange
  refine ⟨fun hbad => hopenFrame.rejected ?_, fun hgood => ?_⟩
  · rw [hverdict, Bool.eq_false_iff.mpr (mt hrange.mpr hbad)]; rfl
  rw [hrange.mp hgood] at hverdict
  have htaken := addressTaken_iff p x.address s
  simp only [bound_eq_some] at htaken
  refine ⟨fun hbound => hopenFrame.rejected (hverdict.trans (if_pos (htaken.mpr hbound))),
    fun hunbound => hopenFrame.admitted (hverdict.trans (if_neg (mt htaken.mp ?_))) ?_⟩
  · exact fun ⟨q, hq, hopen, ha⟩ => hunbound q hq hopen ha
  · rw [admitted_openPort hp, openPort_eq]; rfl

/-! ### CLOSE -/

theorem closeVerdict_of_none {port : Byte} (hp : portOfByte port = none) (mode : Byte) (s : State) :
    closeVerdict port mode s = .reject .badPort := by
  rw [closeVerdict, hp]

theorem closeModeOf_unknown {b : Byte} (h : 2 ≤ b.toNat) : closeModeOf b = none := by
  have hfinish : b ≠ 0#8 := by bv_omega
  have hdiscard : b ≠ 1#8 := by bv_omega
  rw [closeModeOf, if_neg hfinish, if_neg hdiscard]

theorem closeVerdict_unknownMode {port mode : Byte} {p : PortNo} (hp : portOfByte port = some p)
    (hm : closeModeOf mode = none) (s : State) : closeVerdict port mode s = .reject .badParam := by
  rw [closeVerdict, hp, hm]

theorem closeVerdict_of_port {port b : Byte} {p : PortNo} {mode : CloseMode}
    (hp : portOfByte port = some p) (hm : closeModeOf b = some mode) (s : State) :
    closeVerdict port b s = closeDecision (s.port p).state mode (entryFree s) := by
  rw [closeVerdict, hp, hm]

theorem closeFrameEffect_of_port {port b : Byte} {p : PortNo} {mode : CloseMode}
    (hp : portOfByte port = some p) (hm : closeModeOf b = some mode) (stamp : Count) (s : State) :
    closeFrameEffect stamp port b s = closeEffect p mode stamp s := by
  rw [closeFrameEffect, hm]
  exact onPort_of_port hp (fun p s => closeEffect p mode stamp s) s

/-- An OPEN or FAULTED port takes a CLOSE if an entry is free for its CLOSED report (R65, R66). -/
theorem closeDecision_open {st : PortState} (h : st = .opened ∨ ∃ f, st = .faulted f)
    (mode : CloseMode) (room : Bool) :
    closeDecision st mode room = if room then .accept else .refuse .reports := by
  obtain rfl | ⟨f, rfl⟩ := h
  · rfl
  · rfl

/-- A CLOSE that repeats one in force (R65). -/
theorem closeDecision_repeated {k : Closing} {mode : CloseMode}
    (h : k.mode = .discard ∨ mode = .finish) (room : Bool) :
    closeDecision (.closing k) mode room = .reject .notOpen := by
  cases mode with
  | finish => rfl
  | discard =>
    obtain h | h := h
    · exact if_neg (by rw [h]; nofun)
    · cases h

/-- The commands of the three CLOSE rows bring CLOSE frames (R65). -/
theorem closeFrame_of_command {c : Instr} {mode : CloseMode} {stamp : Count} {port : Byte}
    (h : (c = .closeFinish stamp port ∧ mode = .finish) ∨
      (c = .closeDiscard stamp port ∧ mode = .discard)) :
    c.carried = true ∧
      ∃ b, hostFrameOf c = some (.close stamp port b) ∧ closeModeOf b = some mode := by
  obtain ⟨rfl, rfl⟩ | ⟨rfl, rfl⟩ := h
  · exact ⟨rfl, _, rfl, rfl⟩
  · exact ⟨rfl, _, rfl, rfl⟩

/-- Settles O26: the port and mode bytes, then the table `closeDecision`. -/
theorem closeAdmission : Obligations.CloseAdmission := by
  intro port s h hs u hu
  subst hu
  have hclose {c : Instr} {b : Byte} (hc : c.carried = true)
      (hf : hostFrameOf c = some (.close s.ac port b)) :
      AtAC c 0x27#8 (closeVerdict port b) (closeFrameEffect s.ac port b) s :=
    ⟨h, hs, hc, ⟨_, hf, rfl⟩, rfl⟩
  refine ⟨fun hport c hcommand => ?_, fun p hport => ⟨fun b hb => ?_, fun c mode hcommand => ?_⟩⟩
  · have hverdict b := closeVerdict_of_none (portOfByte_of_ge hport) b s
    obtain rfl | rfl | ⟨b, rfl⟩ := hcommand
    · exact (hclose rfl rfl).rejected (hverdict _)
    · exact (hclose rfl rfl).rejected (hverdict _)
    · exact (hclose rfl rfl).rejected (hverdict _)
  · exact (hclose rfl rfl).rejected
      (closeVerdict_unknownMode (portOfByte_eq hport) (closeModeOf_unknown hb) s)
  · obtain ⟨hc, b, hf, hm⟩ := closeFrame_of_command hcommand
    have hp := portOfByte_eq hport
    have hverdict := closeVerdict_of_port hp hm s
    have heffect := admitted_congr (closeFrameEffect_of_port hp hm s.ac (frameReceived s))
    have hframe := hclose hc hf
    refine ⟨fun hclosed => hframe.rejected ?_, fun hopen => ?_, fun k hclosing => ?_⟩
    · rw [hverdict, hclosed]; rfl
    · rw [closeDecision_open hopen] at hverdict
      refine ⟨fun hfull => hframe.refused ?_, fun hroom => hframe.admitted ?_ heffect⟩
      · rw [hverdict, entryFree_eq_false hfull]; rfl
      · rw [hverdict, (entryFree_iff s).mpr hroom]; rfl
    · rw [hclosing] at hverdict
      refine ⟨fun ⟨hfinish, hdiscard⟩ => hframe.admitted ?_ heffect,
        fun hrepeats => hframe.rejected ?_⟩
      · rw [hverdict, hdiscard]; exact if_pos hfinish
      · rw [hverdict, closeDecision_repeated hrepeats]

end Sys2Proof.Machine
end

section
/-! PROOF. The device addresses that ports hold bound (R64, R70): an admitted OPEN alone binds one,
and its check finds the address free, so every step keeps the bound addresses distinct. -/

namespace Sys2Proof.Machine

-- One proof is elaborated at a time: many at once would each hold a thread's stack.
set_option Elab.async false

/-! ### Bound addresses -/

theorem bindingsDistinct_iff (s : State) :
    BindingsDistinct s ↔
      ∀ p q a, (s.port p).bound = some a → (s.port q).bound = some a → p = q := by
  simp only [bound_eq_some]
  constructor
  · rintro h p q a ⟨hp, hpa⟩ ⟨hq, hqa⟩
    exact h p q hp hq (hpa.trans hqa.symm)
  · exact fun h p q hp hq ha => h p q _ ⟨hp, ha⟩ ⟨hq, rfl⟩

/-! ### Operations that bind no address -/

/-- Every address bound in `t` was bound to the same port in `s`. -/
def BindsNone (s t : State) : Prop :=
  ∀ p a, (t.port p).bound = some a → (s.port p).bound = some a

theorem BindsNone.refl (s : State) : BindsNone s s := fun _ _ h => h

theorem BindsNone.trans {s t u : State} (h : BindsNone s t) (h' : BindsNone t u) : BindsNone s u :=
  fun p a hp => h p a (h' p a hp)

theorem bound_of_portDrains {x y : Port} (h : PortDrains x y) {a : Byte} (hy : y.bound = some a) :
    x.bound = some a := by
  rw [bound_eq_some] at hy ⊢
  obtain ⟨hopen, ha⟩ := hy
  obtain ⟨hstate, -⟩ | ⟨hclosed, -⟩ := h.flag
  · exact ⟨mt hstate.mpr hopen, h.params ▸ ha⟩
  · exact absurd hclosed hopen

theorem bindsNone_of_ports {s t : State} (h : t.ports = s.ports) : BindsNone s t := fun p a hp => by
  rwa [State.port, h] at hp

theorem bindsNone_of_resetPorts {s t : State} (h : ∀ p, t.port p = resetPort) : BindsNone s t :=
  fun p a hp => by rw [h] at hp; cases hp

theorem Drains.bindsNone {s t : State} (h : Drains s t) : BindsNone s t :=
  fun p _ hp => bound_of_portDrains (h.port p) hp

theorem SamePool.bindsNone {s t : State} (h : SamePool s t) : BindsNone s t := h.drains.bindsNone

@[simp] theorem bound_evaluatedPort (x y : Port) : (evaluatedPort x y).bound = y.bound := by
  unfold evaluatedPort; split <;> rfl

@[simp] theorem bound_withFlags (f : State → State) (s : State) (p : PortNo) :
    ((withFlags f s).port p).bound = ((f s).port p).bound := by
  rw [port_withFlags, bound_evaluatedPort]

theorem bindsNone_foldl_appendItem (it : Item) {l : List PortNo} (hl : l.Nodup) (s : State) :
    BindsNone s (l.foldl (appendItem it) s) := by
  intro p a hp
  rw [port_foldl_appendItem it l hl] at hp
  split at hp
  · exact hp
  · exact hp

theorem bindsNone_jobEffect (k : JobKind) (stamp : Count) (port : Byte) (data : List Byte)
    (s : State) : BindsNone s (jobEffect k stamp port data s) := by
  unfold jobEffect onPort
  split
  · exact .refl s
  · exact bindsNone_foldl_appendItem _ (List.nodup_singleton _) s

theorem bindsNone_placeFence (stamp : Count) (m : PortSet) (s : State) :
    BindsNone s (placeFence stamp m s) := by
  unfold placeFence
  split
  · exact .refl s
  case h_2 i _ =>
    have hentry : BindsNone s (takeReservation (setFence i (.gathering ⟨stamp, m, 0#16⟩) s)) :=
      bindsNone_of_ports rfl
    exact (hentry.trans (bindsNone_foldl_appendItem _ (nodup_members m) _)).trans
      (drains_settleFences _).bindsNone

theorem bindsNone_markEffect (stamp : Count) (echo : Byte) (s : State) :
    BindsNone s (markEffect stamp echo s) := bindsNone_of_ports (by rw [markEffect_eq])

theorem bindsNone_setupEffect (code reserve enable : Byte) (s : State) :
    BindsNone s (setupEffect code reserve enable s) :=
  bindsNone_of_ports (by rw [setupEffect, writeScanEnable_eq])

/-! ### Steps that keep the bound addresses distinct -/

/-- If `s` binds each address once, so does `t`. -/
def KeepsBindings (s t : State) : Prop := BindingsDistinct s → BindingsDistinct t

theorem KeepsBindings.refl (s : State) : KeepsBindings s s := id

theorem KeepsBindings.trans {s t u : State} (h : KeepsBindings s t) (h' : KeepsBindings t u) :
    KeepsBindings s u := h' ∘ h

theorem BindsNone.keeps {s t : State} (h : BindsNone s t) : KeepsBindings s t := fun hs => by
  rw [bindingsDistinct_iff] at hs ⊢
  exact fun p q a hp hq => hs p q a (h p a hp) (h q a hq)

theorem SamePool.keepsBindings {s t : State} (h : SamePool s t) : KeepsBindings s t :=
  h.bindsNone.keeps

theorem KeepsBindings.of_ports {s t : State} (h : t.ports = s.ports := by rfl) :
    KeepsBindings s t := (bindsNone_of_ports h).keeps

theorem KeepsBindings.after_write {s t u : State} (h : KeepsBindings t u)
    (hports : t.ports = s.ports := by rfl) : KeepsBindings s u :=
  (KeepsBindings.of_ports hports).trans h

/-- The addresses that the evaluation of the flags finds bound are those of the event. -/
theorem KeepsBindings.withFlags {f : State → State} {s : State} (h : KeepsBindings s (f s)) :
    KeepsBindings s (withFlags f s) := fun hs => by
  have hf := h hs
  rw [bindingsDistinct_iff] at hf ⊢
  simpa only [bound_withFlags] using hf

theorem keepsBindings_withFlags {f : State → State} {s : State} (h : Drains s (f s)) :
    KeepsBindings s (withFlags f s) := h.bindsNone.keeps.withFlags

/-- A port that takes an address no other port holds bound keeps the bound addresses distinct
(R64). -/
theorem keepsBindings_openPort {p : PortNo} {params : OpenParams} {s : State}
    (hfree : addressTaken p params.address s = false) (stamp : Count) :
    KeepsBindings s (openPort p stamp params s) := by
  have hnew : ((openPort p stamp params s).port p).bound = some params.address := by
    rw [port_openPort, if_pos rfl, bound_eq_some]
    exact ⟨nofun, rfl⟩
  have hold : ∀ q, q ≠ p → ((openPort p stamp params s).port q).bound = (s.port q).bound :=
    fun q hq => by rw [port_openPort, if_neg hq]
  have hother : ∀ q, q ≠ p → (s.port q).bound ≠ some params.address := fun q hq hbound => by
    rw [(addressTaken_iff p _ s).mpr ⟨q, hq, hbound⟩] at hfree
    cases hfree
  intro hs
  rw [bindingsDistinct_iff] at hs ⊢
  intro q r a hq hr
  by_cases hqp : q = p <;> by_cases hrp : r = p
  · exact hqp.trans hrp.symm
  · rw [hqp, hnew] at hq
    rw [hold r hrp, ← hq] at hr
    exact absurd hr (hother r hrp)
  · rw [hrp, hnew] at hr
    rw [hold q hqp, ← hr] at hq
    exact absurd hq (hother q hqp)
  · rw [hold q hqp] at hq
    rw [hold r hrp] at hr
    exact hs q r a hq hr

/-! ### The moves of a step -/

theorem keepsBindings_counted {stamp : Count} {ty : Byte} {verdict : State → Verdict}
    {effect : State → State} {s : State}
    (h : verdict s = .accept → KeepsBindings s (effect s)) :
    KeepsBindings s (counted stamp ty verdict effect s) := by
  have hadvance : ∀ u, KeepsBindings u (advanceAC u) := fun u => .of_ports
  obtain h' | ⟨-, -, h'⟩ | h' | h' := counted_cases stamp ty verdict effect s
  · rw [h']; exact .of_ports
  · obtain ⟨hv, h''⟩ | ⟨r, -, -, h''⟩ | ⟨d, h''⟩ := admission_cases stamp ty (verdict s) effect s
    · rw [h', h'']; exact (h hv).withFlags.trans (hadvance _)
    · rw [h', h'']; exact .of_ports
    · rw [h', h'']; exact .of_ports
  · rw [h']; exact .of_ports
  · rw [h']; exact .of_ports

theorem keepsBindings_admittedOpen {port : Byte} {stamp : Count} {params : OpenParams} {s : State}
    (h : openVerdict port params s = .accept) :
    KeepsBindings s (onPort port (fun p s => openPort p stamp params s) s) := by
  obtain ⟨p, hp, -, -⟩ := openVerdict_accept h
  rw [openVerdict_of_port hp] at h
  split_ifs at h with hclosed hrange htaken
  rw [onPort_of_port hp]
  exact keepsBindings_openPort (Bool.eq_false_iff.mpr htaken) stamp

theorem keepsBindings_tend (port action : Byte) (s : State) :
    KeepsBindings s (tend port action s) := by
  unfold tend
  split
  · split
    case h_1 h => exact keepsBindings_withFlags (drains_tendEffect _ _ s h)
    case h_2 => exact .of_ports
  · exact .of_ports

theorem keepsBindings_serve (f : HostFrame) (s : State) : KeepsBindings s (serve f s) := by
  match f with
  | .job k stamp port data =>
    exact keepsBindings_counted fun _ => (bindsNone_jobEffect k stamp port data s).keeps
  | .fence stamp m => exact keepsBindings_counted fun _ => (bindsNone_placeFence stamp m s).keeps
  | .mark stamp echo =>
    exact keepsBindings_counted fun _ => (bindsNone_markEffect stamp echo s).keeps
  | .openPort stamp port params => exact keepsBindings_counted keepsBindings_admittedOpen
  | .close stamp port mode =>
    exact keepsBindings_counted fun _ =>
      (drains_closeFrameEffect stamp port mode s).bindsNone.keeps
  | .setup stamp code reserve enable =>
    exact keepsBindings_counted fun _ => (bindsNone_setupEffect code reserve enable s).keeps
  | .fill => exact .refl s
  | .resume mode count => exact (samePool_resume mode count s).keepsBindings
  | .restart => exact (bindsNone_of_resetPorts fun p => Vector.getElem_replicate _).keeps
  | .tend port action => exact keepsBindings_tend port action s
  | .query tag kind argHi argLo =>
    exact (samePool_forSlot (samePool_answerQuery tag kind argHi argLo s)).keepsBindings
  | .recall rc => exact (samePool_forSlot (samePool_answerRecall rc s)).keepsBindings

/-- What an event does before its end leaves the bound addresses distinct. -/
theorem keepsBindings_of_move {s t : State} (h : Move s t) : KeepsBindings s t := by
  cases h with
  | receives | hearsNoise | freesLine | endsQuiet | sensesAttn => exact .of_ports
  | serves f => exact (keepsBindings_serve f (frameReceived s)).after_write
  | findsMalformed =>
    exact (samePool_holdIfRunning .malformed
      (bump .malformed (frameReceived s))).keepsBindings.after_write
  | findsDamaged => exact (samePool_damagedNotice s).keepsBindings
  | losesLink => exact (samePool_silenceExpires s).keepsBindings
  | hearsPair c => exact keepsBindings_withFlags (drains_tribChar c s)
  | hearsFrame address kind data =>
    exact keepsBindings_withFlags (drains_goodTribFrame address kind data (huntTrib s)).after_write
  | hearsGap => exact keepsBindings_withFlags (drains_tribGapExpires s)
  | sentPost => exact keepsBindings_withFlags (drains_postSent s)
  | sentCommand => exact (samePool_commandSent s).keepsBindings
  | meetsDeadline => exact keepsBindings_withFlags (drains_deadlineExpires s)
  | endsBusyWait p => exact ((samePool_stopBusyWait p s).trans .of_ports).keepsBindings
  | releasesPair => exact (samePool_releasePair s).keepsBindings

theorem bindingsDistinct_pinReset (rate : Rate) (held : Bool) (s : State) :
    BindingsDistinct (pinReset rate held s) := fun p _ hp =>
  absurd (congrArg Port.state (port_reset p)) hp

/-- Settles O58: only an admitted OPEN binds an address, and R63 has found it free. -/
theorem stepKeepsBindings : Obligations.StepKeepsBindings := fun _ _ =>
  step_keeps_of_moves (P := fun s => BindingsDistinct s) (Q := fun s => BindingsDistinct s)
    (fun _ _ => id) (fun _ => id) (fun _ _ h => keepsBindings_of_move h)
    (fun s => (samePool_endEvent s).keepsBindings) (fun _ _ => id)
    (fun rate s => ⟨bindingsDistinct_pinReset rate true s, bindingsDistinct_pinReset rate false s⟩)

end Sys2Proof.Machine
end

section
/-! PROOF. The life of a port (chapter 4): what its operations leave, said once, then CLOSE under
the state of the port, reaching CLOSED, TEND, and the outcomes of a job (R72 to R87, R110). -/

namespace Sys2Proof.Machine

/-! ### Queues and heads -/

/-- A new queue of the old length takes and returns no slot (R1). -/
theorem setQueue_of_length_eq {p : PortNo} {q : List Item} {s : State}
    (h : q.length = (s.port p).queue.length) :
    setQueue p q s = modPort p (fun x => { x with queue := q }) s := by
  rw [setQueue, h, Nat.add_sub_cancel]; rfl

/-- A queue that loses its head returns one slot (R1, R2). -/
theorem setQueue_tail {p : PortNo} {s : State} {it : Item} {rest : List Item}
    (h : (s.port p).queue = it :: rest) :
    setQueue p rest s =
      { modPort p (fun x => { x with queue := rest }) s with free := s.free + 1 } := by
  have hfree : s.free + (it :: rest).length - rest.length = s.free + 1 := by
    rw [List.length_cons]; omega
  rw [setQueue, h, hfree]

/-- The head leaves its queue and its slot returns (R9, R11). -/
theorem removeHead_eq {p : PortNo} {s : State} {it : Item} {rest : List Item}
    (h : (s.port p).queue = it :: rest) :
    removeHead p s =
      { modPort p (fun x => { x with queue := rest }) s with
        free := s.free + 1, decisionDue := true } := by
  rw [removeHead, h]
  dsimp only
  rw [setQueue_tail h]; rfl

theorem port_removeHead {p : PortNo} {s : State} {it : Item} {rest : List Item}
    (h : (s.port p).queue = it :: rest) :
    (removeHead p s).port p = { s.port p with queue := rest } := by
  rw [removeHead, h]
  exact port_setPort_same _ _ _

/-- The port record changes once more after its head has left. -/
theorem modPort_removeHead {p : PortNo} {s : State} {it : Item} {rest : List Item}
    (h : (s.port p).queue = it :: rest) (f : Port → Port) :
    modPort p f (removeHead p s) =
      { modPort p (fun x => f { x with queue := rest }) s with
        free := s.free + 1, decisionDue := true } := by
  rw [removeHead_eq h]
  simp [modPort, setPort, State.port]

/-- The head leaves as finished (R9, R19). -/
theorem settleHead_eq {p : PortNo} {s : State} {it : Item} {rest : List Item}
    (h : (s.port p).queue = it :: rest) :
    settleHead p s =
      { modPort p (fun x => { x with queue := rest, settled := it.stamp, dirty := true }) s with
        free := s.free + 1, progressPending := true, decisionDue := true } := by
  rw [settleHead, h]
  dsimp only
  rw [writeSettled, modPort_removeHead h]

theorem setHeadCounters_eq {p : PortNo} {s : State} {k : JobKind} {st : Count} {d : List Byte}
    {a b : Nat} {rest : List Item} (h : (s.port p).queue = .job k st d a b :: rest)
    (f : Nat → Nat → Nat × Nat) :
    setHeadCounters p f s =
      modPort p (fun x => { x with queue := .job k st d (f a b).1 (f a b).2 :: rest }) s := by
  rw [setHeadCounters, h]
  exact setQueue_of_length_eq (by rw [h]; rfl)

/-! ### A discard leaves every port's state alone -/

theorem state_removeMarker (i : FenceNo) (s : State) (p q : PortNo) :
    ((removeMarker i s p).port q).state = (s.port q).state := by
  rw [port_removeMarker]
  split
  · subst q; rfl
  · rfl

/-- A fold of steps that each leave the state of port `q` leaves it. -/
theorem state_foldl {α : Type} {f : State → α → State} {q : PortNo}
    (h : ∀ s a, ((f s a).port q).state = (s.port q).state) (l : List α) (s : State) :
    ((l.foldl f s).port q).state = (s.port q).state := by
  induction l generalizing s with
  | nil => rfl
  | cons a l ih => rw [List.foldl_cons, ih, h]

theorem state_breakFence (p : PortNo) (reason : BreakReason) (s : State) (i : FenceNo)
    (q : PortNo) :
    ((breakFence p reason s i).port q).state = (s.port q).state := by
  unfold breakFence
  split
  case h_1 => rfl
  case h_2 =>
    rw [port_setFence, state_foldl fun s r => state_removeMarker i s r q, port_useReservation]

theorem state_discardQueue (p : PortNo) (reason : BreakReason) (s : State) (q : PortNo) :
    ((discardQueue p reason s).port q).state = (s.port q).state := by
  rw [discardQueue, state_foldl fun s i => state_breakFence p reason s i q, port_emptyQueue]
  split
  · subst q; rfl
  · rfl

/-! ### What a discard removes -/

theorem jobInFlight_congr {s t : State} (h : t.bus = s.bus) (p : PortNo) :
    jobInFlight t p = jobInFlight s p := by
  rw [jobInFlight, jobInFlight, h]

/-- What a discard removes is told by the queue and the bus. -/
theorem discarded_congr {s t : State} {p : PortNo} (hqueue : (t.port p).queue = (s.port p).queue)
    (hbus : t.bus = s.bus) : discarded t p = discarded s p := by
  rw [discarded, discarded, hqueue, jobInFlight_congr hbus]

theorem lastDiscarded_eq_none {s : State} {p : PortNo} (h : discarded s p = []) :
    lastDiscarded s p = none := by
  rw [lastDiscarded, h]; rfl

theorem lastDiscarded_append {s : State} {p : PortNo} {earlier : List Item} {it : Item}
    (h : discarded s p = earlier ++ [it]) : lastDiscarded s p = some it.stamp := by
  rw [lastDiscarded, h, List.getLast?_concat]; rfl

/-! ### The close record -/

theorem modClosing_eq {p : PortNo} {s : State} {c : Closing} (h : (s.port p).state = .closing c)
    (f : Closing → Closing) :
    modClosing p f s = modPort p (fun x => { x with state := .closing (f c) }) s := by
  rw [modClosing, h]; rfl

/-- The discard keeps the close record, and its result then goes into it (R73, R75, R81). -/
theorem discardForClose_eq {p : PortNo} {s : State} {c : Closing}
    (h : (s.port p).state = .closing c) (reason : BreakReason) :
    discardForClose p reason s =
      modPort p (fun x => { x with
          state := .closing (addDiscard (discarded s p).length (lastDiscarded s p) c) })
        (discardQueue p reason s) :=
  modClosing_eq ((state_discardQueue p reason s p).trans h) _

/-- The first discard of a close is its whole result so far (R73 to R75). State `s` is the one that
the CLOSE met, whose queue `v` still has. -/
theorem discardForClose_first {p : PortNo} {s v : State} {mode : CloseMode} {stamp : Count}
    (hport : v.port p = { s.port p with state := .closing ⟨mode, stamp, 0, none⟩ })
    (hbus : v.bus = s.bus) (reason : BreakReason) :
    discardForClose p reason v =
      modPort p (fun x => { x with
          state := .closing ⟨mode, stamp, (discarded s p).length, lastDiscarded s p⟩ })
        (discardQueue p reason v) := by
  have hfirst : ∀ n last, addDiscard n last ⟨mode, stamp, 0, none⟩ = ⟨mode, stamp, n, last⟩ := by
    intro n last
    rw [addDiscard, Nat.zero_add, Option.or_none]
  have hstate : (v.port p).state = .closing ⟨mode, stamp, 0, none⟩ := by rw [hport]
  have hqueue : (v.port p).queue = (s.port p).queue := by rw [hport]
  rw [discardForClose_eq hstate, hfirst, lastDiscarded, lastDiscarded, discarded_congr hqueue hbus]

/-! ### CLOSE -/

theorem port_beginClose (p : PortNo) (mode : CloseMode) (stamp : Count) (s : State) :
    (beginClose p mode stamp s).port p =
      { s.port p with state := .closing ⟨mode, stamp, 0, none⟩ } :=
  port_setPort_same _ _ _

/-- A close in DISCARD mode begins and discards the queue of its port (R73, R74). -/
theorem discardForClose_beginClose (p : PortNo) (stamp : Count) (s : State)
    (reason : BreakReason) :
    discardForClose p reason (beginClose p .discard stamp s) =
      modPort p (fun x => { x with
          state := .closing ⟨.discard, stamp, (discarded s p).length, lastDiscarded s p⟩ })
        (discardQueue p reason (beginClose p .discard stamp s)) :=
  discardForClose_first (port_beginClose p .discard stamp s) rfl reason

theorem stopBusyWait_modPort (p : PortNo) (f : Port → Port) (s : State) :
    stopBusyWait p (modPort p f s) = modPort p (fun x => { f x with busyWait := none }) s :=
  modPort_modPort _ _ _ _

section
variable {p : PortNo} {s : State} (stamp : Count)

theorem closeEffect_opened_finish (h : (s.port p).state = .opened) :
    closeEffect p .finish stamp s = closeDonePorts none (beginClose p .finish stamp s) := by
  unfold closeEffect
  rw [h]

theorem closeEffect_opened_discard (h : (s.port p).state = .opened) :
    closeEffect p .discard stamp s =
      afterHeads none
        (stopBusyWait p (discardForClose p .closeDiscard (beginClose p .discard stamp s))) := by
  unfold closeEffect
  rw [h]

theorem closeEffect_faulted {f : FaultCause} (h : (s.port p).state = .faulted f)
    (mode : CloseMode) :
    closeEffect p mode stamp s =
      afterHeads (some (p, .closedFaulted))
        (discardForClose p .closedFaulted (beginClose p .discard stamp s)) := by
  unfold closeEffect
  rw [h]

theorem closeEffect_closing_discard {c : Closing} (h : (s.port p).state = .closing c) :
    closeEffect p .discard stamp s =
      afterHeads none
        (stopBusyWait p
          (discardForClose p .closeDiscard
            (modPort p
              (fun x => { x with state := .closing { c with mode := .discard } }) s))) := by
  unfold closeEffect
  rw [← modClosing_eq h (fun c => { c with mode := .discard }), h]

end

/-- Settles O27: by the state of the port, each discard being the first of its close. -/
theorem closeEffects : Obligations.CloseEffects := by
  intro p stamp s
  refine ⟨lastDiscarded_eq_none, fun _ _ => lastDiscarded_append, fun hopen => ?_, fun hopen => ?_,
    fun f mode hfaulted => ?_, fun first hclosing => ?_⟩
  · rw [closeEffect_opened_finish stamp hopen]; rfl
  · rw [closeEffect_opened_discard stamp hopen, discardForClose_beginClose, stopBusyWait_modPort]
    rfl
  · rw [closeEffect_faulted stamp hfaulted mode, discardForClose_beginClose]; rfl
  · have hport := (port_modPort p p
      (fun x => { x with state := .closing ⟨.discard, first, 0, none⟩ }) s).trans (if_pos rfl)
    rw [closeEffect_closing_discard stamp hclosing, discardForClose_first hport rfl,
      stopBusyWait_modPort]

/-! ### Reaching CLOSED -/

/-- The cause with which a port that closes in this mode reaches CLOSED (R72 to R76, R81). -/
def closedCause (special : Option (PortNo × ClosedCause)) (p : PortNo) (mode : CloseMode) :
    ClosedCause :=
  match special with
  | some (q, cause) => if q = p then cause else causeOfMode mode
  | none => causeOfMode mode

theorem closedCause_named (p : PortNo) (cause : ClosedCause) (mode : CloseMode) :
    closedCause (some (p, cause)) p mode = cause := if_pos rfl

theorem closedCause_own {special : Option (PortNo × ClosedCause)} {p : PortNo}
    (h : ∀ x, special ≠ some (p, x)) (mode : CloseMode) :
    closedCause special p mode = causeOfMode mode := by
  cases special with
  | none => rfl
  | some named =>
    obtain ⟨q, cause⟩ := named
    exact if_neg fun hq => h cause (by rw [hq])

/-- The port is CLOSING with an empty queue and no job in flight (R77). -/
def NothingLeft (s : State) (p : PortNo) : Prop :=
  (∃ c, (s.port p).state = .closing c) ∧ (s.port p).queue = [] ∧ jobInFlight s p = false

theorem closePort_eq {p : PortNo} {s : State} {c : Closing} (h : (s.port p).state = .closing c)
    (cause : ClosedCause) :
    closePort p cause s =
      { modPort p (fun x =>
          { x with state := .closed, busyWait := none, congested := false }) s with
        flowPending := s.flowPending || (s.port p).congested
        reservations := s.reservations - 1
        reports := s.reports ++ [⟨s.nextRC, .closed p c.stamp cause c.count c.last⟩]
        nextRC := s.nextRC + 1 } := by
  rw [closePort, h]; rfl

theorem port_closePort {p : PortNo} {s : State} {c : Closing} (h : (s.port p).state = .closing c)
    (cause : ClosedCause) (q : PortNo) :
    (closePort p cause s).port q =
      if q = p then { s.port p with state := .closed, busyWait := none, congested := false }
      else s.port q := by
  rw [closePort, h]
  exact port_modPort p q
    (fun x => { x with state := .closed, busyWait := none, congested := false }) s

theorem closeIfDone_eq_closePort {special : Option (PortNo × ClosedCause)} {s : State} {p : PortNo}
    {c : Closing} (hstate : (s.port p).state = .closing c) (hqueue : (s.port p).queue = [])
    (hflight : jobInFlight s p = false) :
    closeIfDone special s p = closePort p (closedCause special p c.mode) s := by
  rw [closeIfDone, hstate]
  dsimp only
  rw [hqueue, hflight]
  cases special with
  | none => rfl
  | some named => rfl

theorem closeIfDone_eq_self {special : Option (PortNo × ClosedCause)} {s : State} {p : PortNo}
    (h : ¬ NothingLeft s p) : closeIfDone special s p = s := by
  obtain hself | ⟨c, cause, hstate, hqueue, hflight, -⟩ := closeIfDone_cases special s p
  · exact hself
  · exact absurd ⟨⟨c, hstate⟩, hqueue, hflight⟩ h

/-- A close that ends writes no other port record and leaves the bus. -/
theorem closeIfDone_frame (special : Option (PortNo × ClosedCause)) (s : State) (q : PortNo) :
    (closeIfDone special s q).bus = s.bus ∧
      ∀ p, p ≠ q → (closeIfDone special s q).port p = s.port p := by
  obtain h | ⟨c, cause, hstate, -, -, h⟩ := closeIfDone_cases special s q
  · rw [h]; exact ⟨rfl, fun _ _ => rfl⟩
  · rw [h]
    refine ⟨?_, fun p hp => (port_closePort hstate cause p).trans (if_neg hp)⟩
    rw [closePort_eq hstate]; rfl

theorem not_nothingLeft_closeIfDone (special : Option (PortNo × ClosedCause)) (s : State)
    (p : PortNo) : ¬ NothingLeft (closeIfDone special s p) p := by
  by_cases h : NothingLeft s p
  · obtain ⟨⟨c, hstate⟩, hqueue, hflight⟩ := h
    rw [closeIfDone_eq_closePort hstate hqueue hflight]
    rintro ⟨⟨d, hd⟩, -, -⟩
    rw [port_closePort hstate, if_pos rfl] at hd
    cases hd
  · rwa [closeIfDone_eq_self h]

/-- A close that ends brings no other port to where it may close. -/
theorem not_nothingLeft_closeIfDone_other (special : Option (PortNo × ClosedCause)) {s : State}
    {p q : PortNo} (hp : p ≠ q) (h : ¬ NothingLeft s p) :
    ¬ NothingLeft (closeIfDone special s q) p := by
  obtain ⟨hbus, hport⟩ := closeIfDone_frame special s q
  rwa [NothingLeft, hport p hp, jobInFlight_congr hbus]

/-- A port may close no more once the closes have come to it; one that might not close before them
may not after. -/
theorem not_nothingLeft_foldl_closeIfDone (special : Option (PortNo × ClosedCause)) {p : PortNo}
    (l : List PortNo) (s : State) (h : p ∈ l ∨ ¬ NothingLeft s p) :
    ¬ NothingLeft (l.foldl (closeIfDone special) s) p := by
  induction l generalizing s with
  | nil => exact h.resolve_left List.not_mem_nil
  | cons q l ih =>
    refine ih (closeIfDone special s q) ?_
    by_cases hp : p = q
    · subst hp; exact .inr (not_nothingLeft_closeIfDone special s p)
    · obtain hmem | hnot := h
      · exact .inl (List.mem_of_ne_of_mem hp hmem)
      · exact .inr (not_nothingLeft_closeIfDone_other special hp hnot)

theorem not_nothingLeft_closeDonePorts (special : Option (PortNo × ClosedCause)) (s : State)
    (p : PortNo) : ¬ NothingLeft (closeDonePorts special s) p :=
  not_nothingLeft_foldl_closeIfDone special allPorts s (.inl (mem_allPorts p))

/-- Settles O29: one close by its cause and its record, and the closes of an event port by port. -/
theorem reachingClosed : Obligations.ReachingClosed := by
  intro p special s
  refine ⟨fun c hstate hqueue hflight cause hnamed hfinish hdiscard => ?_, fun hnot => ?_,
    fun c hstate => ?_, ?_, rfl⟩
  · have hcause : closedCause special p c.mode = cause := by
      by_cases hspecial : ∃ x, special = some (p, x)
      · obtain ⟨x, rfl⟩ := hspecial
        rw [closedCause_named, hnamed x rfl]
      · rw [not_exists] at hspecial
        rw [closedCause_own hspecial]
        cases hmode : c.mode with
        | finish => rw [hfinish hspecial hmode]; rfl
        | discard => rw [hdiscard hspecial hmode]; rfl
    rw [closeIfDone_eq_closePort hstate hqueue hflight, hcause, closePort_eq hstate]
  · refine closeIfDone_eq_self ?_
    rintro ⟨⟨c, hstate⟩, hqueue, hflight⟩
    obtain hother | hitem | hjob := hnot
    · exact hother c hstate
    · exact hitem hqueue
    · rw [hflight] at hjob; cases hjob
  · by_contra hnone
    rw [not_or, not_ne_iff, Bool.not_eq_true] at hnone
    exact not_nothingLeft_closeDonePorts special s p ⟨⟨c, hstate⟩, hnone⟩
  · have hports : allPorts = List.finRange 16 := by decide
    rw [closeDonePorts, hports]

/-! ### TEND -/

/-- A part of an event counts by what it makes of the state it meets. -/
theorem withFlags_congr {f g : State → State} {s : State} (h : f s = g s) :
    withFlags f s = withFlags g s := by
  rw [withFlags, withFlags, h]

theorem tendActionOf_unknown {b : Byte} (h : 3 ≤ b.toNat) : tendActionOf b = none := by
  have hretry : b ≠ 0#8 := by bv_omega
  have hskip : b ≠ 1#8 := by bv_omega
  have hflush : b ≠ 2#8 := by bv_omega
  rw [tendActionOf, if_neg hretry, if_neg hskip, if_neg hflush]

theorem tend_acts {port action : Byte} {p : PortNo} {a : TendAction} {s : State} {f : FaultCause}
    (hp : portOfByte port = some p) (ha : tendActionOf action = some a)
    (hf : (s.port p).state = .faulted f) :
    tend port action s = withFlags (tendEffect p a) s := by
  rw [tend, hp, ha]
  dsimp only
  rw [hf]

theorem tend_misdirected {port action : Byte} {s : State}
    (h : ∀ p a, portOfByte port = some p → tendActionOf action = some a →
      ∀ f, (s.port p).state ≠ .faulted f) :
    tend port action s = bump .misdirected s := by
  unfold tend
  split
  case h_1 p a hp ha =>
    split
    case h_1 f hf => exact absurd hf (h p a hp ha f)
    case h_2 => rfl
  case h_2 => rfl

theorem port_setPortState_same (p : PortNo) (st : PortState) (s : State) :
    (setPortState p st s).port p = { s.port p with state := st } := port_setPort_same _ _ _

/-- RETRY: the failed head starts afresh (R85). -/
theorem tendEffect_retry {p : PortNo} {s : State} {k : JobKind} {st : Count} {d : List Byte}
    {a b : Nat} {rest : List Item} (h : (s.port p).queue = .job k st d a b :: rest) :
    tendEffect p .retry s =
      callArbiter
        (modPort p (fun x => { x with state := .opened, queue := .job k st d 0 0 :: rest }) s) := by
  have hqueue : ((setPortState p .opened s).port p).queue = .job k st d a b :: rest := by
    rw [port_setPortState_same, h]
  rw [tendEffect, setHeadCounters_eq hqueue, setPortState, modPort_modPort]
  rfl

/-- RETRY changes no occupancy, so the flags stay (R13, R85). -/
theorem withFlags_tendEffect_retry {p : PortNo} {s : State} {k : JobKind} {st : Count}
    {d : List Byte} {a b : Nat} {rest : List Item}
    (h : (s.port p).queue = .job k st d a b :: rest) :
    withFlags (tendEffect p .retry) s = tendEffect p .retry s := by
  rw [withFlags_of_occupancies_eq]
  · intro q
    rw [tendEffect_retry h, port_callArbiter, port_modPort]
    split
    · subst q; rw [h]; rfl
    · rfl
  · rw [tendEffect_retry h]; rfl
  · rw [tendEffect_retry h]; rfl

/-- SKIP: the failed head leaves as finished, and what follows a change of heads follows (R86). -/
theorem tendEffect_skip {p : PortNo} {s : State} {it : Item} {rest : List Item}
    (h : (s.port p).queue = it :: rest) :
    tendEffect p .skip s =
      callArbiter (afterHeads none
        { modPort p (fun x => { x with
            state := .opened, queue := rest, settled := it.stamp, dirty := true }) s with
          free := s.free + 1
          progressPending := true
          decisionDue := true }) := by
  have hqueue : ((setPortState p .opened s).port p).queue = it :: rest := by
    rw [port_setPortState_same, h]
  rw [tendEffect, settleHead_eq hqueue, setPortState, modPort_modPort]
  rfl

/-- A TEND frame on a running hub is received and tended (R84). -/
theorem exec_of_tend {c : Instr} {port action : Byte} {s : State}
    (hf : hostFrameOf c = some (.tend port action)) (hc : c.carried = true)
    (h : s.resetHeld = false) :
    exec c s = .next (endEvent (tend port action (frameReceived s))) := by
  rw [exec_of_carried_hostFrame hf hc h, serve]

theorem tendActs : Sys2Proof.Claim.TendActs := by
  intro port p f s h hport hfaulted
  have hacts {action : Byte} {a : TendAction} (ha : tendActionOf action = some a) :
      tend port action (frameReceived s) = withFlags (tendEffect p a) (frameReceived s) :=
    tend_acts (portOfByte_eq hport) ha hfaulted
  refine ⟨fun k st d a b rest hqueue => ?_, fun it rest hqueue => ?_, ?_⟩
  · rw [exec_of_tend rfl rfl h, hacts (a := .retry) rfl,
      withFlags_tendEffect_retry (s := frameReceived s) hqueue,
      tendEffect_retry (s := frameReceived s) hqueue]
    rfl
  · rw [exec_of_tend rfl rfl h, hacts (a := .skip) rfl]
    exact congrArg (Host.Outcome.next ∘ endEvent)
      (withFlags_congr (tendEffect_skip (s := frameReceived s) hqueue))
  · rw [exec_of_tend rfl rfl h, hacts (a := .flush) rfl]
    rfl

theorem tendMisdirected : Sys2Proof.Claim.TendMisdirected := by
  intro port s h u hu
  subst hu
  have hmisdirected {c : Instr} {action : Byte} (hf : hostFrameOf c = some (.tend port action))
      (hc : c.carried = true)
      (hnot : ∀ p a, portOfByte port = some p → tendActionOf action = some a →
        ∀ f, (s.port p).state ≠ .faulted f) :
      exec c s = .next (endEvent (bump .misdirected (frameReceived s))) := by
    rw [exec_of_tend hf hc h, tend_misdirected (s := frameReceived s) hnot]
  refine ⟨fun hport => ?_, fun action haction => hmisdirected rfl rfl fun p a _ ha => ?_⟩
  · have hnot : ∀ p, portOfByte port = some p → ∀ f, (s.port p).state ≠ .faulted f := by
      intro p hp
      obtain hnone | ⟨q, hq, hstate⟩ := hport
      · rw [portOfByte_of_ge hnone] at hp; cases hp
      · rw [portOfByte_eq hq] at hp; cases hp; exact hstate
    exact ⟨hmisdirected rfl rfl fun p _ hp _ => hnot p hp,
      hmisdirected rfl rfl fun p _ hp _ => hnot p hp,
      hmisdirected rfl rfl fun p _ hp _ => hnot p hp⟩
  · rw [tendActionOf_unknown haction] at ha; cases ha

/-- Settles O31: the TENDs that act, and those that are misdirected. -/
theorem tendActsOrMisdirected : Obligations.Tend := ⟨tendActs, tendMisdirected⟩

/-! ### Outcomes of a job -/

theorem failureUnderPortState : Sys2Proof.Claim.FailureUnderPortState := by
  intro p cause s
  refine ⟨fun hopen => ?_, fun c it rest v hclosing hqueue hflight hv => ?_⟩
  · rw [jobFailsPort, hopen]; rfl
  · rw [← removeHead_eq hqueue] at hv
    have hport : v.port p = { s.port p with queue := rest } := by
      rw [hv, port_removeHead hqueue]
    have hidle : jobInFlight v p = false := by
      rw [← hflight, hv, removeHead_eq hqueue]; rfl
    have hdiscarded : discarded v p = rest := by
      rw [discarded, hidle, hport]; rfl
    have hstate : (v.port p).state = .closing c := by rw [hport, hclosing]
    rw [jobFailsPort, hclosing]
    dsimp only
    rw [← hv, discardForClose_eq hstate, lastDiscarded, hdiscarded]
    rfl

theorem waitUnderPortState : Sys2Proof.Claim.WaitUnderPortState := by
  intro p s
  refine ⟨fun hfinish => ?_, fun c it rest hclosing hdiscard hqueue => ?_⟩
  · unfold jobWaits
    split
    case h_1 hclosing _ => cases hfinish _ hclosing
    case h_2 => rfl
  · obtain ⟨mode, stamp, count, last⟩ := c
    cases hdiscard
    have hstate : ((removeHead p s).port p).state = .closing ⟨.discard, stamp, count, last⟩ := by
      rw [port_removeHead hqueue]
      exact hclosing
    rw [jobWaits, hclosing, hqueue]
    dsimp only
    rw [modClosing_eq hstate, modPort_removeHead hqueue]

/-- Settles O32: a failure, and a retry left or a tolerated BUSY. -/
theorem outcomeUnderPortState : Obligations.OutcomeUnderPortState :=
  ⟨failureUnderPortState, waitUnderPortState⟩

end Sys2Proof.Machine
end

section
/-! PROOF. Which heads are eligible and which of them a decision starts (R93 to R97), and what a
decision and the end of an event leave: either a transaction begins, or the bus stays IDLE with
nothing left to serve (R92, R129, R134). -/

namespace Sys2Proof.Machine

/-! ### Eligible heads -/

/-- The kind of the job at the head of a port that the port alone would let start: it is OPEN or
CLOSING and no busy wait runs (R94). -/
def Port.offers (x : Port) : Option JobKind :=
  match x.state with
  | .opened | .closing _ => if x.busyWait.isNone then headKind x.queue else none
  | _ => none

theorem Port.offers_eq_some {x : Port} {k : JobKind} :
    x.offers = some k ↔
      (x.state = .opened ∨ ∃ c, x.state = .closing c) ∧ headKind x.queue = some k ∧
        x.busyWait = none := by
  cases hstate : x.state <;> simp [Port.offers, hstate, and_comm]

theorem Port.offers_of_queue_nil {x : Port} (h : x.queue = []) : x.offers = none := by
  rw [Option.eq_none_iff_forall_ne_some]
  intro k hk
  obtain ⟨-, hhead, -⟩ := offers_eq_some.mp hk
  rw [h] at hhead
  cases hhead

/-- What a port offers is eligible if it is a SEND or a report entry is free (R94). -/
theorem eligibleHead_eq (s : State) (p : PortNo) :
    eligibleHead s p = (s.port p).offers.filter fun k => k == .send || entryFree s := by
  unfold eligibleHead Port.offers
  obtain ⟨state, -, queue, -, -, -, wait⟩ := s.port p
  cases state with
  | closed | faulted => rfl
  | opened | closing =>
    match queue with
    | [] | .marker _ _ :: _ => cases wait <;> rfl
    | .job _ _ _ _ _ :: _ => cases wait <;> simp [headKind, Option.filter]

theorem eligibleHead_eq_some {s : State} {p : PortNo} {k : JobKind} :
    eligibleHead s p = some k ↔
      (s.port p).offers = some k ∧ (k = .send ∨ entryFree s = true) := by
  rw [eligibleHead_eq, Option.filter_eq_some_iff, Bool.or_eq_true, beq_iff_eq]

theorem eligibleHead_congr {s t : State} {p : PortNo}
    (hport : (t.port p).offers = (s.port p).offers) (hroom : entryFree t = entryFree s) :
    eligibleHead t p = eligibleHead s p := by
  rw [eligibleHead_eq, eligibleHead_eq, hport, hroom]

theorem eligibility : Sys2Proof.Claim.Eligibility := by
  intro p k s
  refine ⟨rfl, ?_⟩
  rw [eligibleHead_eq_some, Port.offers_eq_some, entryFree_iff, and_assoc, and_assoc]

/-! ### The search for a head -/

theorem getElem_searchOrder (ptr : PortNo) (i : Nat) (h : i < (searchOrder ptr).length) :
    (searchOrder ptr)[i] = ptr + ⟨i, h⟩ := by
  have hports : allPorts = List.finRange 16 := by decide
  simp only [searchOrder, hports, List.getElem_map, List.getElem_finRange]
  rfl

/-- The search finds the port that serves and that no other serving port precedes (R93, R95). -/
theorem find?_searchOrder {f : PortNo → Bool} {ptr p : PortNo} (hp : f p = true)
    (hfirst : ∀ q, (q - ptr).val < (p - ptr).val → f q = false) :
    (searchOrder ptr).find? f = some p := by
  have hget (i : Nat) (h : i < (searchOrder ptr).length) := getElem_searchOrder ptr i h
  refine List.find?_eq_some_iff_getElem.mpr ⟨hp, (p - ptr).val, (p - ptr).isLt,
    (hget _ _).trans (add_sub_cancel ptr p), fun j hj => ?_⟩
  rw [hget, hfirst]
  · rfl
  · rw [add_sub_cancel_left]
    exact hj

theorem mem_searchOrder (ptr p : PortNo) : p ∈ searchOrder ptr :=
  List.mem_map.mpr ⟨p - ptr, mem_allPorts _, add_sub_cancel ptr p⟩

theorem isYes_iff (b : Byte) : isYes b = true ↔ b = 1 := beq_iff_eq

theorem isYes_eq_false_iff (b : Byte) : isYes b = false ↔ b ≠ 1 := by
  rw [← Bool.not_eq_true, isYes_iff]

/-- A class has no head to start exactly if no port of it has an eligible head. -/
theorem findHead_eq_none_iff {urgent : Bool} {s : State} :
    findHead urgent s = none ↔
      ∀ p, isYes (s.port p).params.urgent = urgent → eligibleHead s p = none := by
  simp [findHead, mem_searchOrder]

theorem findHead_eq_some {urgent : Bool} {s : State} {p : PortNo} {k : JobKind}
    (hp : eligibleHead s p = some k) (hclass : isYes (s.port p).params.urgent = urgent)
    (hfirst : ∀ q, isYes (s.port q).params.urgent = urgent →
      (q - if urgent then s.urgentPtr else s.normalPtr).val <
        (p - if urgent then s.urgentPtr else s.normalPtr).val → eligibleHead s q = none) :
    findHead urgent s = some p := by
  refine find?_searchOrder (by rw [hclass, hp, beq_self_eq_true]; rfl) fun q hq => ?_
  by_cases hother : isYes (s.port q).params.urgent = urgent
  · rw [hfirst q hother hq]; exact Bool.and_false _
  · rw [beq_eq_false_iff_ne.mpr hother]; rfl

theorem eligible_of_findHead {urgent : Bool} {s : State} {p : PortNo}
    (h : findHead urgent s = some p) : ∃ k, eligibleHead s p = some k := by
  unfold findHead at h
  have hserves := List.find?_some h
  rw [Bool.and_eq_true] at hserves
  exact Option.isSome_iff_exists.mp hserves.2

/-- Steps 2 to 4 start an eligible head, or find none (R93, R134). -/
theorem offerJobs_cases (s : State) :
    (∃ p k, eligibleHead s p = some k ∧ offerJobs s = startJob k p s) ∨
      ((∀ p, eligibleHead s p = none) ∧
        offerJobs s = evalScan { s with alternation := false }) := by
  unfold offerJobs
  cases hfind : (findHead true s).or (findHead false s) with
  | none =>
    obtain ⟨hurgent, hnormal⟩ := Option.or_eq_none_iff.mp hfind
    refine .inr ⟨fun p => ?_, rfl⟩
    cases hclass : isYes (s.port p).params.urgent with
    | true => exact findHead_eq_none_iff.mp hurgent p hclass
    | false => exact findHead_eq_none_iff.mp hnormal p hclass
  | some p =>
    obtain ⟨k, hk⟩ : ∃ k, eligibleHead s p = some k := by
      obtain h | ⟨-, h⟩ := Option.or_eq_some_iff.mp hfind
      · exact eligible_of_findHead h
      · exact eligible_of_findHead h
    refine .inl ⟨p, k, hk, ?_⟩
    dsimp only
    rw [hk]

theorem offerJobs_of_findHead {s : State} {p : PortNo} {k : JobKind}
    (h : (findHead true s).or (findHead false s) = some p) (hk : eligibleHead s p = some k) :
    offerJobs s = startJob k p s := by
  unfold offerJobs
  rw [h]
  dsimp only
  rw [hk]

theorem offerJobs_of_none {s : State} (h : ∀ p, eligibleHead s p = none) :
    offerJobs s = evalScan { s with alternation := false } := by
  obtain ⟨p, k, hk, -⟩ | ⟨-, hnone⟩ := offerJobs_cases s
  · rw [h p] at hk; cases hk
  · exact hnone

/-- The start of a job, field by field (R95, R97, R134). -/
theorem startJob_eq (k : JobKind) (p : PortNo) (s : State) :
    startJob k p s =
      { s with
        bus := .sending ⟨.job k, p, (s.port p).params.address, (s.port p).params.replyTimeout⟩
        tribRx := .hunt
        urgentPtr := if isYes (s.port p).params.urgent then p + 1 else s.urgentPtr
        normalPtr := if isYes (s.port p).params.urgent then s.normalPtr else p + 1
        alternation := false
        reservations := if k = .send then s.reservations else s.reservations + 1 } := by
  have hmove : ∀ u : State, movePointer p u =
      { u with
        urgentPtr := if isYes (u.port p).params.urgent then p + 1 else u.urgentPtr
        normalPtr := if isYes (u.port p).params.urgent then u.normalPtr else p + 1 } := fun u => by
    unfold movePointer
    split <;> rfl
  unfold startJob
  rw [hmove, port_startSending]
  by_cases hk : k = .send
  · simp only [if_pos hk]; rfl
  · simp only [if_neg hk]; rfl

/-! ### Decisions on jobs alone -/

theorem arbitrate_eq_decision {s : State} (hbus : s.bus = .idle) (hdue : s.decisionDue = true) :
    arbitrate s = decision s := by
  rw [arbitrate, hbus, hdue]; rfl

/-- With no scan under way a decision that leaves none PENDING is one offer of the bus to jobs. -/
theorem decision_eq_offerJobs {s : State} (hscan : s.scan = .inactive)
    (h : (offerJobs s).scan ≠ .pending) : decision s = offerJobs s := by
  have hrun : runPending s = s := by rw [runPending, if_neg (by rw [hscan]; nofun)]
  have hpass : decisionPass s = offerJobs s := by
    unfold decisionPass
    rw [hrun]
    exact if_neg (by rw [hscan]; nofun)
  unfold decision
  rw [hpass]
  exact if_neg (by simp [h])

theorem decision_of_findHead {s : State} {p : PortNo} {k : JobKind} (hscan : s.scan = .inactive)
    (h : (findHead true s).or (findHead false s) = some p) (hk : eligibleHead s p = some k) :
    decision s = startJob k p s := by
  have hoffer := offerJobs_of_findHead h hk
  rw [decision_eq_offerJobs hscan, hoffer]
  rw [hoffer, startJob_eq]
  exact fun hpending => by rw [hscan] at hpending; cases hpending

theorem scanDue_iff (s : State) :
    scanDue s = true ↔
      s.scan = .inactive ∧ s.attn = true ∧ s.scanEnable = true ∧ s.alternation = false ∧
        ∃ p, (s.port p).listens = true := by
  simp [scanDue, mem_allPorts, and_assoc]

theorem evalScan_of_not_due {s : State} (h : ¬ scanDue s = true) : evalScan s = s := if_neg h

theorem jobDecision : Sys2Proof.Claim.JobDecision := by
  intro s hbus hdue hscan
  refine ⟨fun p k hk hurgent hfirst => ?_, fun p k hk hnormal hnone hfirst => ?_,
    fun hnone hquiet => ?_⟩
  · have hclass : isYes (s.port p).params.urgent = true := (isYes_iff _).mpr hurgent
    have hfind : findHead true s = some p :=
      findHead_eq_some hk hclass fun q hq => hfirst q ((isYes_iff _).mp hq)
    rw [arbitrate_eq_decision hbus hdue,
      decision_of_findHead (p := p) hscan (by rw [hfind]; rfl) hk, startJob_eq, hclass]
    rfl
  · have hclass : isYes (s.port p).params.urgent = false := (isYes_eq_false_iff _).mpr hnormal
    have hnoUrgent : findHead true s = none :=
      findHead_eq_none_iff.mpr fun q hq => hnone q ((isYes_iff _).mp hq)
    have hfind : findHead false s = some p :=
      findHead_eq_some hk hclass fun q hq => hfirst q ((isYes_eq_false_iff _).mp hq)
    rw [arbitrate_eq_decision hbus hdue,
      decision_of_findHead (p := p) hscan (by rw [hnoUrgent, hfind]; rfl) hk, startJob_eq, hclass]
    rfl
  · have hnotDue : ¬ scanDue { s with alternation := false } = true := fun hscanDue => by
      obtain ⟨-, hattn, henable, -, hlistens⟩ := (scanDue_iff _).mp hscanDue
      exact hquiet ⟨hattn, henable, hlistens⟩
    have hoffer := (offerJobs_of_none hnone).trans (evalScan_of_not_due hnotDue)
    rw [arbitrate_eq_decision hbus hdue, decision_eq_offerJobs hscan, hoffer]
    rw [hoffer]
    exact fun hpending => by rw [hscan] at hpending; cases hpending

/-- Settles O43: eligibility by what the port offers, and each start by the search of its class. -/
theorem arbiterServesJobs : Obligations.ArbiterServesJobs := ⟨eligibility, jobDecision⟩

end Sys2Proof.Machine
end

section
/-! PROOF. What a decision and the end of an event leave: either a transaction begins, or the bus is
as it was, and on an IDLE bus nothing is left to serve (R92, R93, R129, R134, R150). A state in
which nothing is left to do is one that the end of an event leaves as it is. -/

namespace Sys2Proof.Machine

/-! ### What a decision may write -/

/-- The state `s` with the fields that a decision may write taken from `t`. -/
def State.decidedAs (s t : State) : State :=
  { s with
    bus := t.bus, tribRx := t.tribRx, urgentPtr := t.urgentPtr, normalPtr := t.normalPtr,
    scan := t.scan, nextIndex := t.nextIndex, alternation := t.alternation,
    reservations := t.reservations, decisionDue := t.decisionDue }

/-- `t` is `s` but for what a decision may write. -/
def Decided (s t : State) : Prop := t = s.decidedAs t

theorem Decided.refl (s : State) : Decided s s := rfl

theorem Decided.trans {s t u : State} (h : Decided s t) (h' : Decided t u) : Decided s u :=
  calc
    u = t.decidedAs u := h'
    _ = (s.decidedAs t).decidedAs u := congrArg (·.decidedAs u) h
    _ = s.decidedAs u := rfl

theorem decided_evalScan (s : State) : Decided s (evalScan s) := by
  obtain h | ⟨-, h⟩ := evalScan_cases s
  · rw [h]; exact .refl s
  · rw [h]; rfl

theorem decided_runPending (s : State) : Decided s (runPending s) := by
  unfold runPending
  split
  · rfl
  · exact .refl s

theorem decided_offerJobs (s : State) : Decided s (offerJobs s) := by
  obtain ⟨p, k, -, h⟩ | ⟨-, h⟩ := offerJobs_cases s
  · rw [h, startJob_eq]; rfl
  · have hclear : Decided s { s with alternation := false } := rfl
    rw [h]; exact hclear.trans (decided_evalScan _)

/-! ### One pass of a decision -/

/-- A pass polls, or offers the bus to jobs with no scan PENDING and the rest as it was (R93,
R130). -/
theorem decisionPass_cases (s : State) :
    (∃ p, decisionPass s = startPoll p (runPending s) ∧ (runPending s).scan = .running) ∨
      ∃ v : State, decisionPass s = offerJobs v ∧ v.scan ≠ .pending ∧
        v = { s with scan := v.scan, nextIndex := v.nextIndex, alternation := v.alternation } ∧
        (s.scan = .pending → v.scan = .running ∨ ∀ p, (s.port p).listens = false) := by
  have hframe : runPending s =
      { s with scan := (runPending s).scan, nextIndex := (runPending s).nextIndex } := by
    unfold runPending
    split <;> rfl
  have hscan : (runPending s).scan ≠ .pending := by
    unfold runPending
    split
    case isTrue => nofun
    case isFalse h => exact h
  unfold decisionPass
  dsimp only
  split
  case isTrue hrunning =>
    split
    case h_1 p _ =>
      split
      · exact .inl ⟨p, rfl, hrunning⟩
      · exact .inr ⟨_, rfl, hscan, by rw [hframe], fun _ => .inl hrunning⟩
    case h_2 hnone =>
      refine .inr ⟨stopScan true (runPending s), rfl, nofun, by rw [hframe]; rfl,
        fun hpending => .inr fun p => ?_⟩
      rw [runPending, if_pos hpending] at hnone
      have hp : ¬ (decide (0 ≤ p.val) && (s.port p).listens) = true :=
        List.find?_eq_none.mp hnone p (mem_allPorts p)
      simpa using hp
  case isFalse hnot =>
    refine .inr ⟨_, rfl, hscan, by rw [hframe], fun hpending => absurd ?_ hnot⟩
    rw [runPending, if_pos hpending]

theorem decided_decisionPass (s : State) : Decided s (decisionPass s) := by
  obtain ⟨p, h, -⟩ | ⟨v, h, -, hv, -⟩ := decisionPass_cases s
  · rw [h]; exact (decided_runPending s).trans rfl
  · have hv' : Decided s v := by rw [hv]; rfl
    rw [h]; exact hv'.trans (decided_offerJobs v)

/-- A transaction begins, and the tributary receiver is put to HUNT (R90, R91). -/
def Begins (t : State) : Prop := (∃ x, t.bus = .sending x) ∧ t.tribRx = .hunt

theorem begins_startJob (k : JobKind) (p : PortNo) (s : State) : Begins (startJob k p s) := by
  rw [startJob_eq]; exact ⟨⟨_, rfl⟩, rfl⟩

/-- The bus and what eligibility reads are as they were, and no head is eligible. -/
structure Declines (s t : State) : Prop where
  bus : t.bus = s.bus
  tribRx : t.tribRx = s.tribRx
  eligible : ∀ p, eligibleHead t p = none

/-- An offer to jobs begins a transaction, or declines; a scan that it leaves PENDING was due. -/
theorem offerJobs_outcome (s : State) :
    (Begins (offerJobs s) ∧ (offerJobs s).scan = s.scan) ∨
      (Declines s (offerJobs s) ∧
        (offerJobs s = { s with alternation := false } ∧ ¬ scanDue (offerJobs s) = true ∨
          (offerJobs s).scan = .pending ∧ s.scan = .inactive ∧
            ∃ p, (s.port p).listens = true)) := by
  obtain ⟨p, k, -, h⟩ | ⟨hnone, h⟩ := offerJobs_cases s
  · refine .inl ⟨h ▸ begins_startJob k p s, ?_⟩
    rw [h, startJob_eq]
  · refine .inr ?_
    obtain hself | ⟨hdue, hpending⟩ := evalScan_cases { s with alternation := false }
    · have hoffer := h.trans hself
      refine ⟨?_, .inl ⟨hoffer, fun hdue => ?_⟩⟩
      · rw [hoffer]; exact ⟨rfl, rfl, hnone⟩
      · rw [hoffer] at hdue
        have hscan : s.scan = .pending := congrArg State.scan (hself.symm.trans (if_pos hdue))
        have hinactive : s.scan = .inactive := ((scanDue_iff _).mp hdue).1
        rw [hscan] at hinactive; cases hinactive
    · obtain ⟨hinactive, -, -, -, hlistens⟩ := (scanDue_iff _).mp hdue
      have hoffer := h.trans hpending
      rw [hoffer]
      exact ⟨⟨rfl, rfl, hnone⟩, .inr ⟨rfl, hinactive, hlistens⟩⟩

/-- A pass begins a transaction, or declines; it leaves a scan PENDING only where none was and one
became due. -/
theorem decisionPass_outcome (s : State) :
    (Begins (decisionPass s) ∧ (decisionPass s).scan ≠ .pending) ∨
      (Declines s (decisionPass s) ∧
        ((decisionPass s).scan ≠ .pending ∧ ¬ scanDue (decisionPass s) = true ∨
          (decisionPass s).scan = .pending ∧ s.scan ≠ .pending)) := by
  obtain ⟨p, h, hrunning⟩ | ⟨v, h, hnot, hv, hscan⟩ := decisionPass_cases s
  · refine .inl ⟨⟨⟨_, by rw [h]; rfl⟩, by rw [h]; rfl⟩, ?_⟩
    have : (decisionPass s).scan = .running := by rw [h]; exact hrunning
    rw [this]; nofun
  · have hport : ∀ p, v.port p = s.port p := fun p => by rw [hv]; rfl
    rw [h]
    obtain ⟨hbegins, hkept⟩ | ⟨hdeclines, hleft⟩ := offerJobs_outcome v
    · exact .inl ⟨hbegins, hkept ▸ hnot⟩
    · refine .inr ⟨⟨hdeclines.bus.trans (by rw [hv]), hdeclines.tribRx.trans (by rw [hv]),
        hdeclines.eligible⟩, ?_⟩
      obtain ⟨hself, hdue⟩ | ⟨hpending, hinactive, p, hlistens⟩ := hleft
      · refine .inl ⟨?_, hdue⟩
        rw [hself]; exact hnot
      · refine .inr ⟨hpending, fun hwas => ?_⟩
        obtain hrunning | hsilent := hscan hwas
        · rw [hinactive] at hrunning; cases hrunning
        · rw [hport, hsilent p] at hlistens; cases hlistens

/-! ### The decision of an event -/

/-- Nothing is left for the arbiter: no head is eligible, and no scan is PENDING or due. -/
structure NothingToServe (t : State) : Prop where
  eligible : ∀ p, eligibleHead t p = none
  scan : t.scan ≠ .pending
  due : ¬ scanDue t = true

theorem decided_decision (s : State) : Decided s (decision s) := by
  unfold decision
  dsimp only
  split
  · exact (decided_decisionPass s).trans (decided_decisionPass _)
  · exact decided_decisionPass s

/-- A decision begins a transaction, or leaves an IDLE bus with nothing to serve (R93, R134). -/
theorem decision_outcome {s : State} (hbus : s.bus = .idle) :
    Begins (decision s) ∨
      (decision s).bus = .idle ∧ (decision s).tribRx = s.tribRx ∧ NothingToServe (decision s) := by
  unfold decision
  dsimp only
  obtain ⟨hbegins, hscan⟩ | ⟨hdeclines, hleft⟩ := decisionPass_outcome s
  · rw [if_neg (by simp [hscan])]
    exact .inl hbegins
  · have hidle : (decisionPass s).bus = .idle := hdeclines.bus.trans hbus
    obtain ⟨hscan, hdue⟩ | ⟨hpending, -⟩ := hleft
    · rw [if_neg (by simp [hscan])]
      exact .inr ⟨hidle, hdeclines.tribRx, hdeclines.eligible, hscan, hdue⟩
    · rw [if_pos (by simp [hpending, hidle])]
      obtain ⟨hbegins, -⟩ | ⟨hdeclines', hleft'⟩ := decisionPass_outcome (decisionPass s)
      · exact .inl hbegins
      · obtain ⟨hscan', hdue'⟩ | ⟨-, hnot⟩ := hleft'
        · exact .inr ⟨hdeclines'.bus.trans hidle, hdeclines'.tribRx.trans hdeclines.tribRx,
            hdeclines'.eligible, hscan', hdue'⟩
        · exact absurd hpending hnot

theorem decided_arbitrate (s : State) : Decided s (arbitrate s) := by
  obtain h | ⟨-, -, h⟩ := arbitrate_cases s
  · rw [h]; exact .refl s
  · rw [h]; exact decided_decision s

/-! ### The transmitter's choice -/

/-- The state `s` with the fields that a choice may write taken from `t`. -/
def State.chosenAs (s t : State) : State :=
  { s with
    line := t.line, streamPending := t.streamPending, flowPending := t.flowPending,
    progressPending := t.progressPending, slot := t.slot, reports := t.reports, ring := t.ring,
    turn := t.turn, ports := t.ports, decisionDue := t.decisionDue }

theorem beginProgress_frame (s : State) :
    ∃ ports, beginProgress s =
      { s with
        ports := ports
        line := .busy (.progress (progressEntries s))
        progressPending := false
        turn := .progress } := by
  have hclear : ∀ (l : List (PortNo × Count)) (u : State), ∃ ports,
      l.foldl (fun acc e => clearDirty acc e.1) u = { u with ports := ports } := fun l => by
    induction l with
    | nil => exact fun u => ⟨u.ports, rfl⟩
    | cons e l ih =>
      intro u
      obtain ⟨ports, h⟩ := ih (clearDirty u e.1)
      exact ⟨ports, h⟩
  obtain ⟨ports, h⟩ := hclear (progressEntries s) s
  exact ⟨ports, by rw [beginProgress, h]⟩

/-- What a choice does: nothing, with no source waiting on a FREE line; or it begins a frame, and a
report that leaves the queue brings a decision (R150, R152). -/
theorem choose_cases (s : State) :
    (choose s = s ∧ (s.line = .free → sourceWaiting s = false)) ∨
      (s.line = .free ∧ (∃ f, (choose s).line = .busy f) ∧ choose s = s.chosenAs (choose s) ∧
        ((choose s).reports = s.reports ∧ (choose s).decisionDue = s.decisionDue ∨
          (choose s).decisionDue = true)) := by
  have hprogress : (∃ f, (beginProgress s).line = .busy f) ∧
      beginProgress s = s.chosenAs (beginProgress s) ∧
        (beginProgress s).reports = s.reports ∧ (beginProgress s).decisionDue = s.decisionDue := by
    obtain ⟨ports, h⟩ := beginProgress_frame s
    rw [h]
    exact ⟨⟨_, rfl⟩, rfl, rfl, rfl⟩
  obtain ⟨hline, hframe, hkept⟩ := hprogress
  unfold choose
  split
  case h_1 f hbusy => exact .inl ⟨rfl, fun hfree => by rw [hbusy] at hfree; cases hfree⟩
  case h_2 hfree =>
    split
    case isTrue => exact .inr ⟨hfree, ⟨_, rfl⟩, rfl, .inl ⟨rfl, rfl⟩⟩
    case isFalse hstream =>
      split
      case isTrue => exact .inr ⟨hfree, ⟨_, rfl⟩, rfl, .inl ⟨rfl, rfl⟩⟩
      case isFalse hflow =>
        split
        case h_1 => exact .inr ⟨hfree, ⟨_, rfl⟩, rfl, .inl ⟨rfl, rfl⟩⟩
        case h_2 hslot =>
          unfold beginQueueOrProgress
          split
          case h_1 hreports =>
            split
            case isTrue => exact .inr ⟨hfree, hline, hframe, .inl hkept⟩
            case isFalse hnone =>
              exact .inl ⟨rfl, fun _ => by
                simp [sourceWaiting, hstream, hflow, hslot, hreports, hnone]⟩
          case h_2 =>
            split
            case isTrue => exact .inr ⟨hfree, hline, hframe, .inl hkept⟩
            case isFalse => exact .inr ⟨hfree, ⟨_, rfl⟩, rfl, .inr rfl⟩

theorem choose_eq (s : State) : choose s = s.chosenAs (choose s) := by
  obtain ⟨h, -⟩ | ⟨-, -, h, -⟩ := choose_cases s
  · rw [h]; rfl
  · exact h

theorem choose_of_quiet {s : State} (h : s.line = .free → sourceWaiting s = false) :
    choose s = s := by
  unfold choose
  split
  case h_1 => rfl
  case h_2 hfree =>
    have hnone := h hfree
    simp only [sourceWaiting, Bool.or_eq_false_iff] at hnone
    obtain ⟨⟨⟨⟨hstream, hflow⟩, hslot⟩, hreports⟩, hprogress⟩ := hnone
    have hslot : s.slot = none := by simpa using hslot
    have hreports : s.reports = [] := by simpa using hreports
    rw [if_neg (by rw [hstream]; nofun), if_neg (by rw [hflow]; nofun), hslot]
    dsimp only
    rw [beginQueueOrProgress, hreports]
    exact if_neg (by rw [hprogress]; nofun)

/-- A choice clears dirty flags alone in the port records, so what the ports offer stays. -/
theorem offers_choose (s : State) (p : PortNo) :
    ((choose s).port p).offers = (s.port p).offers := by
  have hclear : ∀ (l : List (PortNo × Count)) (u : State),
      ((l.foldl (fun acc e => clearDirty acc e.1) u).port p).offers = (u.port p).offers := by
    intro l
    induction l with
    | nil => exact fun _ => rfl
    | cons e l ih =>
      intro u
      refine (ih (clearDirty u e.1)).trans ?_
      rw [clearDirty, port_modPort]
      split
      · subst p; rfl
      · rfl
  have hprogress : ((beginProgress s).port p).offers = (s.port p).offers := hclear _ s
  unfold choose
  split
  · rfl
  · split
    · rfl
    · split
      · rfl
      · split
        · rfl
        · unfold beginQueueOrProgress
          split
          · split
            · exact hprogress
            · rfl
          · split
            · exact hprogress
            · rfl

/-! ### The end of an event -/

theorem not_scanDue_evalScan (s : State) : ¬ scanDue (evalScan s) = true := by
  obtain h | ⟨-, h⟩ := evalScan_cases s
  · rw [h]
    intro hdue
    have hscan : s.scan = .pending := congrArg State.scan (h.symm.trans (if_pos hdue))
    rw [((scanDue_iff s).mp hdue).1] at hscan
    cases hscan
  · rw [h]
    exact fun hdue => nomatch ((scanDue_iff _).mp hdue).1

theorem evalScan_bus (s : State) :
    (evalScan s).bus = s.bus ∧ (evalScan s).tribRx = s.tribRx := by
  obtain h | ⟨-, h⟩ := evalScan_cases s
  · rw [h]; exact ⟨rfl, rfl⟩
  · rw [h]; exact ⟨rfl, rfl⟩

theorem arbitrate_outcome (s : State) :
    (s.bus = .idle ∧ Begins (arbitrate s)) ∨
      (arbitrate s).bus = s.bus ∧ (arbitrate s).tribRx = s.tribRx := by
  obtain h | ⟨hidle, -, h⟩ := arbitrate_cases s
  · rw [h]; exact .inr ⟨rfl, rfl⟩
  · rw [h]
    obtain hbegins | ⟨hstays, hkept, -⟩ := decision_outcome hidle
    · exact .inl ⟨hidle, hbegins⟩
    · exact .inr ⟨hstays.trans hidle.symm, hkept⟩

/-- The end of an event begins a transaction on an IDLE bus, or leaves bus and tributary
receiver. -/
theorem endEvent_outcome (s : State) :
    (s.bus = .idle ∧ Begins (endEvent s)) ∨
      (endEvent s).bus = s.bus ∧ (endEvent s).tribRx = s.tribRx := by
  obtain ⟨hbus, htrib⟩ : (choose (evalScan s)).bus = s.bus ∧
      (choose (evalScan s)).tribRx = s.tribRx := by
    rw [choose_eq]
    exact evalScan_bus s
  obtain ⟨hend, hend'⟩ : (endEvent s).bus = (arbitrate (choose (evalScan s))).bus ∧
      (endEvent s).tribRx = (arbitrate (choose (evalScan s))).tribRx := evalScan_bus _
  rw [Begins, hend, hend', ← hbus, ← htrib]
  exact arbitrate_outcome _

/-- With the bus taken the end of an event leaves bus and tributary receiver. -/
theorem endEvent_of_not_idle {s : State} (h : s.bus ≠ .idle) :
    (endEvent s).bus = s.bus ∧ (endEvent s).tribRx = s.tribRx :=
  (endEvent_outcome s).resolve_left fun hbegins => h hbegins.1

theorem endEvent_frame (s : State) :
    Decided (choose (evalScan s)) (endEvent s) := by
  have hend : Decided (arbitrate (choose (evalScan s))) (endEvent s) :=
    (decided_evalScan _).trans rfl
  exact (decided_arbitrate _).trans hend

theorem resetHeld_endEvent (s : State) : (endEvent s).resetHeld = s.resetHeld := by
  rw [endEvent_frame s, State.decidedAs, choose_eq, State.chosenAs, decided_evalScan s]; rfl

/-- The end of an event would change nothing: no decision and no scan is due, and with the line FREE
no source waits. -/
structure Rests (s : State) : Prop where
  decision : s.decisionDue = false
  scan : ¬ scanDue s = true
  sources : s.line = .free → sourceWaiting s = false

theorem endEvent_of_rests {s : State} (h : Rests s) : endEvent s = s := by
  have harbitrate : arbitrate s = s := if_neg (by rw [h.decision]; nofun)
  rw [endEvent, evalScan_of_not_due h.scan, choose_of_quiet h.sources, harbitrate,
    evalScan_of_not_due h.scan, ← h.decision]

theorem rests_endEvent (s : State) : Rests (endEvent s) where
  decision := rfl
  scan := not_scanDue_evalScan (arbitrate (choose (evalScan s)))
  sources := by
    have hframe := endEvent_frame s
    rw [hframe]
    obtain ⟨h, hquiet⟩ | ⟨-, ⟨f, hbusy⟩, -⟩ := choose_cases (evalScan s)
    · rw [h]; exact hquiet
    · intro hfree
      exact absurd (hbusy.symm.trans hfree) nofun

/-- A settled hub is a running one that rests. -/
theorem settled_iff (s : State) : Settled s ↔ s.resetHeld = false ∧ Rests s :=
  ⟨fun h => ⟨h.1, h.2 ▸ rests_endEvent s⟩, fun h => ⟨h.1, endEvent_of_rests h.2⟩⟩

/-- Whether a state rests is not told by the tributary receiver or the bus. -/
theorem Rests.of_bus {s : State} (h : Rests s) (r : TribRx) (b : Bus) :
    Rests { s with tribRx := r, bus := b } := ⟨h.decision, h.scan, h.sources⟩

end Sys2Proof.Machine
end

section
/-! PROOF. How an event serves the bus (R92, R93): an operation that makes a head eligible on an
IDLE bus brings a decision (`Heeds`), and the end of a transaction always does (`Ends`). -/

namespace Sys2Proof.Machine

-- One proof is elaborated at a time: many at once would each hold a thread's stack.
set_option Elab.async false

/-! ### Operations that heed the arbiter -/

/-- `y` offers no job that `x` does not. -/
def Port.OffersNoMore (x y : Port) : Prop := ∀ k, y.offers = some k → x.offers = some k

/-- Bus, receiver and RESET are left alone, no scan becomes PENDING, a decision that is due stays
so, and a head that becomes eligible on an IDLE bus brings one (R92). -/
structure Heeds (s t : State) : Prop where
  bus : t.bus = s.bus
  tribRx : t.tribRx = s.tribRx
  resetHeld : t.resetHeld = s.resetHeld
  scan : t.scan = .pending → s.scan = .pending
  due : s.decisionDue = true → t.decisionDue = true
  eligible : s.bus = .idle → t.decisionDue = false →
    ∀ p, eligibleHead s p = none → eligibleHead t p = none

theorem Heeds.refl (s : State) : Heeds s s := ⟨rfl, rfl, rfl, id, id, fun _ _ _ => id⟩

theorem Heeds.trans {s t u : State} (h : Heeds s t) (h' : Heeds t u) : Heeds s u where
  bus := h'.bus.trans h.bus
  tribRx := h'.tribRx.trans h.tribRx
  resetHeld := h'.resetHeld.trans h.resetHeld
  scan := h.scan ∘ h'.scan
  due := h'.due ∘ h.due
  eligible hbus hdue p hp := by
    have hdue' : t.decisionDue = false := by
      by_contra hnot
      rw [h'.due (by simpa using hnot)] at hdue
      cases hdue
    exact h'.eligible (h.bus.trans hbus) hdue p (h.eligible hbus hdue' p hp)

/-- Anything may become eligible where a decision is due. -/
theorem Heeds.of_due {s t : State} (hdue : t.decisionDue = true) (hbus : t.bus = s.bus := by rfl)
    (htrib : t.tribRx = s.tribRx := by rfl)
    (hscan : t.scan = .pending → s.scan = .pending := by exact id)
    (hheld : t.resetHeld = s.resetHeld := by rfl) : Heeds s t :=
  ⟨hbus, htrib, hheld, hscan, fun _ => hdue, fun _ hnot => by rw [hdue] at hnot; cases hnot⟩

theorem eligibleHead_eq_none_of_offersNoMore {s t : State} {p : PortNo}
    (hport : (s.port p).OffersNoMore (t.port p)) (hroom : entryFree t = true → entryFree s = true)
    (h : eligibleHead s p = none) : eligibleHead t p = none := by
  rw [Option.eq_none_iff_forall_ne_some] at h ⊢
  intro k hk
  obtain ⟨hoffers, hfree⟩ := eligibleHead_eq_some.mp hk
  exact h k (eligibleHead_eq_some.mpr ⟨hport k hoffers, hfree.imp_right hroom⟩)

/-- Ports that offer no more, and no fewer report entries in use, make no head eligible. -/
theorem Heeds.of_offers {s t : State}
    (hport : s.bus = .idle → ∀ p, (s.port p).OffersNoMore (t.port p))
    (hroom : entriesInUse s ≤ entriesInUse t := by exact le_refl _) (hbus : t.bus = s.bus := by rfl)
    (htrib : t.tribRx = s.tribRx := by rfl) (hscan : t.scan = s.scan := by rfl)
    (hdue : t.decisionDue = s.decisionDue := by rfl)
    (hheld : t.resetHeld = s.resetHeld := by rfl) : Heeds s t where
  bus := hbus
  tribRx := htrib
  resetHeld := hheld
  scan := (hscan ▸ ·)
  due := (hdue.trans ·)
  eligible hidle _ p := eligibleHead_eq_none_of_offersNoMore (hport hidle p) fun hfree => by
    rw [entryFree_iff] at hfree ⊢
    omega

/-- A write of fields that the arbiter does not read, with no fewer report entries in use. -/
theorem Heeds.of_ports {s t : State} (hports : t.ports = s.ports := by rfl)
    (hroom : entriesInUse s ≤ entriesInUse t := by exact le_refl _) (hbus : t.bus = s.bus := by rfl)
    (htrib : t.tribRx = s.tribRx := by rfl) (hscan : t.scan = s.scan := by rfl)
    (hdue : t.decisionDue = s.decisionDue := by rfl)
    (hheld : t.resetHeld = s.resetHeld := by rfl) : Heeds s t :=
  .of_offers (fun _ p k hk => by rwa [State.port, hports] at hk) hroom hbus htrib hscan hdue hheld

theorem heeds_foldl {α : Type} (f : State → α → State) (h : ∀ s a, Heeds s (f s a))
    (l : List α) (s : State) : Heeds s (l.foldl f s) := by
  induction l generalizing s with
  | nil => exact .refl s
  | cons a l ih => exact (h s a).trans (ih (f s a))

/-! ### Port records and queues -/

theorem heeds_modPort {p : PortNo} {f : Port → Port} {s : State}
    (h : s.bus = .idle → (s.port p).OffersNoMore (f (s.port p))) : Heeds s (modPort p f s) :=
  .of_offers fun hbus q => by
    rw [port_modPort]
    split
    · subst q; exact h hbus
    · exact fun _ => id

/-- A new queue with the same kind of head, or with no job at its head. -/
theorem heeds_setQueue {p : PortNo} {q : List Item} {s : State}
    (h : headKind q = headKind (s.port p).queue) : Heeds s (setQueue p q s) :=
  (heeds_modPort (f := fun x => { x with queue := q }) fun _ k => by
    rw [Port.offers_eq_some, Port.offers_eq_some]
    exact fun ⟨hstate, hhead, hwait⟩ => ⟨hstate, h ▸ hhead, hwait⟩).trans .of_ports

/-- A new queue under a decision that is due. -/
theorem heeds_callArbiter_setQueue (p : PortNo) (q : List Item) (s : State) :
    Heeds s (callArbiter (setQueue p q s)) := .of_due rfl

theorem heeds_appendItem (it : Item) (s : State) (p : PortNo) : Heeds s (appendItem it s p) := by
  obtain ⟨-, h⟩ | ⟨hqueue, h⟩ := appendItem_cases it s p
  · rw [h]; exact heeds_callArbiter_setQueue p _ s
  · rw [h]
    refine heeds_setQueue ?_
    cases hq : (s.port p).queue with
    | nil => exact absurd hq hqueue
    | cons head rest => cases head <;> rfl

theorem heeds_removeHead (p : PortNo) (s : State) : Heeds s (removeHead p s) := by
  obtain ⟨-, h⟩ | ⟨it, rest, -, h⟩ := removeHead_cases p s
  · rw [h]; exact .refl s
  · rw [h]; exact heeds_callArbiter_setQueue p rest s

theorem heeds_writeSettled (p : PortNo) (c : Count) (s : State) : Heeds s (writeSettled p c s) :=
  (heeds_modPort (f := fun x => { x with settled := c, dirty := true }) fun _ _ => id).trans
    .of_ports

theorem heeds_settleHead (p : PortNo) (s : State) : Heeds s (settleHead p s) := by
  unfold settleHead
  split
  · exact .refl s
  · exact (heeds_removeHead p s).trans (heeds_writeSettled _ _ _)

theorem heeds_setHeadCounters (p : PortNo) (f : Nat → Nat → Nat × Nat) (s : State) :
    Heeds s (setHeadCounters p f s) := by
  obtain h | ⟨k, st, d, a, b, rest, hqueue, h⟩ := setHeadCounters_cases p f s
  · rw [h]; exact .refl s
  · rw [h]; exact heeds_setQueue (by rw [hqueue]; rfl)

/-- Stopping a busy wait makes no head eligible where the queue is empty on an IDLE bus. -/
theorem heeds_stopBusyWait {p : PortNo} {s : State} (h : s.bus = .idle → (s.port p).queue = []) :
    Heeds s (stopBusyWait p s) :=
  heeds_modPort fun hbus k hk => by
    rw [Port.offers_of_queue_nil (x := { s.port p with busyWait := none }) (h hbus)] at hk
    cases hk

theorem heeds_useReservation (b : ReportBody) (s : State) : Heeds s (useReservation b s) := by
  refine .of_ports (hroom := ?_)
  change s.reports.length + s.reservations ≤ (s.reports ++ [_]).length + (s.reservations - 1)
  rw [List.length_append, List.length_singleton]
  omega

theorem heeds_takeReservation (s : State) : Heeds s (takeReservation s) :=
  .of_ports (hroom := Nat.le_succ _)

theorem heeds_queueReport (b : ReportBody) (s : State) : Heeds s (queueReport b s) := by
  refine .of_ports (hroom := ?_)
  change s.reports.length + s.reservations ≤ (s.reports ++ [_]).length + s.reservations
  rw [List.length_append]
  omega

/-! ### Fences -/

theorem heeds_arrive (s : State) : Heeds s (arrive s) :=
  heeds_foldl arriveAt (fun u i => by
    unfold arriveAt
    split
    · exact .refl u
    · exact .of_ports) allFences s

theorem heeds_releaseFence (i : FenceNo) (s : State) : Heeds s (releaseFence i s) := by
  have hmember : ∀ stamp u p, Heeds u (releaseMember i stamp u p) := fun stamp u p => by
    unfold releaseMember
    split
    · exact (heeds_removeHead p u).trans (heeds_writeSettled _ _ _)
    · exact heeds_writeSettled _ _ _
  unfold releaseFence
  split
  · exact .refl s
  · exact ((heeds_foldl _ (hmember _) _ s).trans (heeds_useReservation _ _)).trans .of_ports

theorem heeds_settleFences (s : State) : Heeds s (settleFences s) := by
  have hrounds : ∀ n u, Heeds u (releaseRounds n u) := fun n => by
    induction n with
    | zero => exact .refl
    | succ n ih =>
      intro u
      unfold releaseRounds
      split
      · exact heeds_arrive u
      · exact ((heeds_arrive u).trans (heeds_releaseFence _ _)).trans (ih _)
  exact hrounds 5 s

theorem heeds_removeMarker (i : FenceNo) (s : State) (p : PortNo) :
    Heeds s (removeMarker i s p) := by
  unfold removeMarker
  dsimp only
  split
  case isTrue => exact heeds_callArbiter_setQueue p _ s
  case isFalse h =>
    refine heeds_setQueue ?_
    have hkind : ∀ q : List Item, headKind q = headKind q.head?.toList := fun q => by
      cases q with
      | nil => rfl
      | cons it q => cases it <;> rfl
    rw [headIsMarker_eq, Bool.not_eq_true] at h
    rw [hkind, head?_filter_not_marker h, ← hkind]

theorem heeds_breakFence (p : PortNo) (reason : BreakReason) (s : State) (i : FenceNo) :
    Heeds s (breakFence p reason s i) := by
  unfold breakFence
  split
  · exact .refl s
  · exact ((heeds_useReservation _ s).trans (heeds_foldl _ (heeds_removeMarker i) _ _)).trans
      .of_ports

theorem heeds_placeFence (stamp : Count) (m : PortSet) (s : State) :
    Heeds s (placeFence stamp m s) := by
  unfold placeFence
  split
  case h_1 => exact .refl s
  case h_2 i _ =>
    have hentry : Heeds s (takeReservation (setFence i (.gathering ⟨stamp, m, 0#16⟩) s)) :=
      Heeds.trans .of_ports (heeds_takeReservation _)
    exact (hentry.trans (heeds_foldl _ (heeds_appendItem _) _ _)).trans (heeds_settleFences _)

/-! ### Discards and closes -/

/-- On an IDLE bus the whole queue goes, whatever has become of the port's state since `s`. -/
theorem heeds_emptyQueue_setPortState (p : PortNo) (st : PortState) (s : State) :
    Heeds s (emptyQueue p (setPortState p st s)) := by
  unfold emptyQueue
  dsimp only
  split
  case isTrue => exact .of_due rfl
  case isFalse h =>
    refine .of_offers fun hbus q => ?_
    rw [port_setQueue]
    split
    case isFalse hq =>
      rw [port_setPortState, if_neg hq]
      exact fun _ => id
    case isTrue =>
      have hkept : kept (setPortState p st s) p = [] := by
        rw [kept, if_neg]
        simp [jobInFlight, hbus]
      intro k hk
      rw [Port.offers_of_queue_nil hkept] at hk
      cases hk

theorem setPortState_self (p : PortNo) (s : State) : setPortState p (s.port p).state s = s :=
  setPort_port p s

theorem heeds_breakFences (p : PortNo) (reason : BreakReason) (l : List FenceNo) (s : State) :
    Heeds s (l.foldl (breakFence p reason) s) := heeds_foldl _ (heeds_breakFence p reason) l s

theorem heeds_discardQueue_setPortState (p : PortNo) (st : PortState) (reason : BreakReason)
    (s : State) : Heeds s (discardQueue p reason (setPortState p st s)) :=
  (heeds_emptyQueue_setPortState p st s).trans (heeds_breakFences p reason _ _)

theorem heeds_modClosing (p : PortNo) (f : Closing → Closing) (s : State) :
    Heeds s (modClosing p f s) := by
  unfold modClosing
  split
  case h_1 c hstate =>
    refine heeds_modPort (f := fun x => { x with state := .closing (f c) }) fun _ k => ?_
    rw [Port.offers_eq_some, Port.offers_eq_some, hstate]
    exact fun ⟨_, hrest⟩ => ⟨.inr ⟨c, rfl⟩, hrest⟩
  case h_2 => exact .refl s

/-- A discard for a close whose port has taken its state since `s`. -/
theorem heeds_discardForClose_setPortState (p : PortNo) (st : PortState) (reason : BreakReason)
    (s : State) : Heeds s (discardForClose p reason (setPortState p st s)) :=
  (heeds_discardQueue_setPortState p st reason s).trans (heeds_modClosing p _ _)

theorem heeds_discardForClose (p : PortNo) (reason : BreakReason) (s : State) :
    Heeds s (discardForClose p reason s) := by
  have h := heeds_discardForClose_setPortState p (s.port p).state reason s
  rwa [setPortState_self] at h

/-- On an IDLE bus a discard leaves nothing in the queue. -/
theorem queue_discardForClose {p : PortNo} {s : State} (h : s.bus = .idle) (reason : BreakReason) :
    ((discardForClose p reason s).port p).queue = [] := by
  have hkept : kept s p = [] := by
    rw [kept, if_neg]
    simp [jobInFlight, h]
  have hempty : ((emptyQueue p s).port p).queue = [] := by
    rw [port_emptyQueue, if_pos rfl]
    exact hkept
  have hdrains : Drains (emptyQueue p s) (discardForClose p reason s) :=
    (drains_foldl _ (drains_breakFence p reason) _ _).trans (drains_modClosing p _ _)
  have hlen := (hdrains.port p).length_le
  rw [hempty] at hlen
  exact List.length_eq_zero_iff.mp (Nat.le_zero.mp hlen)

theorem heeds_stopBusyWait_discardForClose (p : PortNo) (reason : BreakReason) (s : State) :
    Heeds (discardForClose p reason s) (stopBusyWait p (discardForClose p reason s)) :=
  heeds_stopBusyWait fun hbus =>
    queue_discardForClose ((heeds_discardForClose p reason s).bus.symm.trans hbus) reason

theorem heeds_closePort (p : PortNo) (cause : ClosedCause) (s : State) :
    Heeds s (closePort p cause s) := by
  unfold closePort
  split
  · refine ((heeds_modPort
      (f := fun x => { x with state := .closed, busyWait := none, congested := false })
      fun _ k hk => ?_).trans .of_ports).trans (heeds_useReservation _ _)
    cases hk
  · exact .refl s

theorem heeds_closeDonePorts (special : Option (PortNo × ClosedCause)) (s : State) :
    Heeds s (closeDonePorts special s) := by
  refine heeds_foldl _ (fun u p => ?_) allPorts s
  obtain h | ⟨c, cause, -, -, -, h⟩ := closeIfDone_cases special u p
  · rw [h]; exact .refl u
  · rw [h]; exact heeds_closePort p cause u

theorem heeds_afterHeads (special : Option (PortNo × ClosedCause)) (s : State) :
    Heeds s (afterHeads special s) :=
  (heeds_settleFences s).trans (heeds_closeDonePorts special _)

theorem heeds_closeEffect (p : PortNo) (mode : CloseMode) (stamp : Count) (s : State) :
    Heeds s (closeEffect p mode stamp s) := by
  have hbegin : ∀ reason, Heeds s (discardForClose p reason (beginClose p .discard stamp s)) :=
    fun reason => (heeds_takeReservation s).trans (heeds_discardForClose_setPortState p _ reason _)
  unfold closeEffect
  split
  case h_1 hstate =>
    refine ((heeds_takeReservation s).trans (heeds_modPort fun _ k => ?_)).trans
      (heeds_closeDonePorts none _)
    rw [Port.offers_eq_some, Port.offers_eq_some, port_takeReservation, hstate]
    exact fun ⟨_, hrest⟩ => ⟨.inl rfl, hrest⟩
  case h_2 =>
    exact ((hbegin _).trans (heeds_stopBusyWait_discardForClose p _ _)).trans (heeds_afterHeads _ _)
  case h_3 => exact (hbegin _).trans (heeds_afterHeads _ _)
  case h_4 =>
    exact (((heeds_modClosing p _ s).trans (heeds_discardForClose p _ _)).trans
      (heeds_stopBusyWait_discardForClose p _ _)).trans (heeds_afterHeads _ _)
  case h_5 => exact .refl s

theorem heeds_openPort {p : PortNo} {s : State} (h : (s.port p).queue = []) (stamp : Count)
    (params : OpenParams) : Heeds s (openPort p stamp params s) :=
  (heeds_modPort (f := fun x => { x with state := .opened, params := params, busyWait := none })
    fun _ k hk => by
      rw [Port.offers_of_queue_nil (x := { s.port p with
        state := .opened, params := params, busyWait := none }) h] at hk
      cases hk).trans (heeds_writeSettled _ _ _)

/-! ### Flags -/

@[simp] theorem offers_evaluatedPort (x y : Port) : (evaluatedPort x y).offers = y.offers := by
  unfold evaluatedPort; split <;> rfl

theorem heeds_withFlags (f : State → State) (s : State) : Heeds (f s) (withFlags f s) := by
  have hport : ∀ p, ((f s).port p).OffersNoMore ((withFlags f s).port p) := fun p k hk => by
    rwa [port_withFlags, offers_evaluatedPort] at hk
  have hframe := withFlags_frame f s
  refine .of_offers (fun _ => hport) ?_ ?_ ?_ ?_ ?_ ?_
  · rw [entriesInUse, entriesInUse, hframe]
  · rw [hframe]
  · rw [hframe]
  · rw [hframe]
  · rw [hframe]
  · rw [hframe]

/-! ### The end of a transaction -/

/-- The transaction in flight ends, and what follows heeds the decision that this brings (R92). -/
def Ends (s t : State) : Prop := Heeds (dropTransaction s) t

theorem Ends.bus {s t : State} (h : Ends s t) : t.bus = .idle := Heeds.bus h

theorem Ends.tribRx {s t : State} (h : Ends s t) : t.tribRx = s.tribRx :=
  Heeds.tribRx (s := dropTransaction s) h

theorem Ends.resetHeld {s t : State} (h : Ends s t) : t.resetHeld = s.resetHeld :=
  Heeds.resetHeld (s := dropTransaction s) h

theorem Ends.due {s t : State} (h : Ends s t) : t.decisionDue = true := Heeds.due h rfl

theorem Ends.after_write {s t u : State} (h : Ends t u) (htrib : t.tribRx = s.tribRx := by rfl)
    (hscan : t.scan = s.scan := by rfl) (hheld : t.resetHeld = s.resetHeld := by rfl) :
    Ends s u := by
  have hwrite : Heeds (dropTransaction s) (dropTransaction t) :=
    .of_due rfl rfl htrib (hscan ▸ ·) hheld
  exact hwrite.trans h

theorem heeds_jobFinishes (p : PortNo) (s : State) : Heeds s (jobFinishes p s) :=
  (heeds_settleHead p s).trans (heeds_afterHeads _ _)

theorem heeds_jobWaits (p : PortNo) (s : State) : Heeds s (jobWaits p s) := by
  unfold jobWaits
  split
  · exact ((heeds_removeHead p s).trans (heeds_modClosing p _ _)).trans (heeds_closeDonePorts _ _)
  · exact .refl s

theorem heeds_jobFailsPort (p : PortNo) (cause : FaultCause) (s : State) :
    Heeds s (jobFailsPort p cause s) := by
  unfold jobFailsPort
  split
  case h_1 => exact heeds_modPort fun _ k hk => by cases hk
  case h_2 =>
    exact ((heeds_removeHead p s).trans (heeds_discardForClose p _ _)).trans (heeds_afterHeads _ _)
  case h_3 => exact .refl s

theorem heeds_jobFails (k : JobKind) (p : PortNo) (cause : FaultCause) (s : State) :
    Heeds s (jobFails k p cause s) := by
  have hcounted : Heeds s (bump .jobFailed s) := .of_ports
  exact (hcounted.trans (heeds_useReservation _ _)).trans (heeds_jobFailsPort p cause _)

theorem ends_attemptFails (k : JobKind) (p : PortNo) (cause : FaultCause) (s : State) :
    Ends s (attemptFails k p cause s) := by
  have hcount := heeds_setHeadCounters p (fun a b => (a + 1, b)) (dropTransaction s)
  unfold attemptFails
  dsimp only
  split
  · exact hcount.trans (heeds_jobFails k p cause _)
  · exact (hcount.trans (.of_due rfl)).trans (heeds_jobWaits p _)

theorem ends_pollEnds (s : State) : Ends s (pollEnds s) := by
  unfold pollEnds afterPoll
  split
  · exact .refl _
  · exact .of_due rfl rfl rfl nofun

theorem ends_pollSilent (s : State) : Ends s (pollSilent s) := (ends_pollEnds _).after_write

theorem ends_deadlineTaken (t : Transaction) (s : State) : Ends s (deadlineTaken t s) := by
  unfold deadlineTaken
  split
  · exact ends_pollSilent s
  · exact (ends_attemptFails _ _ _ _).after_write

theorem ends_badReply (t : Transaction) (s : State) : Ends s (badReply t s) := by
  unfold badReply
  split
  · exact ends_pollSilent s
  · exact (ends_attemptFails _ _ _ _).after_write

theorem ends_replyDone (k : JobKind) (p : PortNo) (data : List Byte) (s : State) :
    Ends s (replyDone k p data s) := by
  refine Heeds.trans ?_ (heeds_jobFinishes p _)
  split
  · exact heeds_useReservation _ _
  · exact .of_due rfl

theorem ends_replyBusy (k : JobKind) (p : PortNo) (s : State) : Ends s (replyBusy k p s) := by
  have hdrop : Ends s (bump .busBusy (dropTransaction s)) := Heeds.of_ports
  have hreturn : ∀ u, Heeds u (returnReservation u) := fun u => .of_due rfl
  unfold replyBusy
  dsimp only
  split
  · have hcount :=
      (hdrop.trans (heeds_setHeadCounters p (fun a b => (a, b + 1)) _)).trans (hreturn _)
    split
    · exact hcount.trans (heeds_jobWaits p _)
    · refine (hcount.trans (heeds_modPort fun _ k hk => ?_)).trans (heeds_jobWaits p _)
      obtain ⟨-, -, hwait⟩ := Port.offers_eq_some.mp hk
      cases hwait
  · exact hdrop.trans (heeds_jobFails k p _ _)

theorem ends_judgeJob (k : JobKind) (t : Transaction) (kind : Byte) (data : List Byte)
    (s : State) : Ends s (judgeJob k t kind data s) := by
  have hbad := ends_badReply t s
  unfold judgeJob
  split
  · exact hbad
  · split
    · exact hbad
    · split
      · exact ends_replyDone k t.port _ s
      · split
        · exact ends_replyBusy k t.port s
        · split
          · split
            · exact heeds_jobFails k t.port _ _
            · exact hbad
          · exact hbad

theorem ends_judgePoll (t : Transaction) (kind : Byte) (data : List Byte) (s : State) :
    Ends s (judgePoll t kind data s) := by
  have hsilent := ends_pollSilent s
  unfold judgePoll
  split
  · exact hsilent
  · split
    · exact hsilent
    · split
      · exact (ends_pollEnds _).after_write
      · split
        · exact (ends_pollEnds _).after_write
        · exact hsilent

end Sys2Proof.Machine
end

section
/-! PROOF. The law of the served bus, kept by every step: within an event an IDLE bus has nothing
left to serve unless a decision is due (`Attended`), and the end of the event takes that decision
(R92, R93, R129). -/

namespace Sys2Proof.Machine

-- One proof is elaborated at a time: many at once would each hold a thread's stack.
set_option Elab.async false

/-! ### The queue of a CLOSED port is empty -/

/-- The queue of a CLOSED port is empty (R12). -/
def ClosedEmpty (s : State) : Prop := ∀ p, (s.port p).state = .closed → (s.port p).queue = []

theorem Drains.closedEmpty {s t : State} (h : Drains s t) (hs : ClosedEmpty s) : ClosedEmpty t := by
  intro p hp
  obtain ⟨hstate, -⟩ | ⟨-, hqueue, -⟩ := (h.port p).flag
  · have hlen := (h.port p).length_le
    rw [hs p (hstate.mp hp)] at hlen
    exact List.length_eq_zero_iff.mp (Nat.le_zero.mp hlen)
  · exact hqueue

theorem closedEmpty_withFlags {f : State → State} {s : State} (h : ClosedEmpty (f s)) :
    ClosedEmpty (withFlags f s) := by
  intro p hp
  have hstate : ∀ x y : Port, (evaluatedPort x y).state = y.state := fun x y => by
    unfold evaluatedPort; split <;> rfl
  rw [port_withFlags, hstate] at hp
  rw [port_withFlags, evaluatedPort_queue]
  exact h p hp

theorem closedEmpty_of_ports {s t : State} (hs : ClosedEmpty s) (h : t.ports = s.ports) :
    ClosedEmpty t := by
  unfold ClosedEmpty State.port at *
  rwa [h]

/-- Items join the queues of ports that are OPEN or FAULTED alone. -/
theorem closedEmpty_foldl_appendItem {it : Item} {l : List PortNo} (hl : l.Nodup) {s : State}
    (hopen : ∀ p ∈ l, (s.port p).state ≠ .closed) (hs : ClosedEmpty s) :
    ClosedEmpty (l.foldl (appendItem it) s) := by
  intro p hp
  rw [port_foldl_appendItem it l hl] at hp ⊢
  split at hp
  case isTrue hmem => exact absurd hp (hopen p hmem)
  case isFalse hmem =>
    rw [if_neg hmem]
    exact hs p hp

theorem not_closed_of_admits {x : Port} (h : x.admits = true) : x.state ≠ .closed := by
  intro hclosed
  rw [admits_eq_false (.inl hclosed)] at h
  cases h

theorem closedEmpty_of_poolStep {s t : State} (h : PoolStep s t) (hs : ClosedEmpty s) :
    ClosedEmpty t := by
  cases h with
  | same h => exact h.drains.closedEmpty hs
  | drained f h => exact closedEmpty_withFlags (h.closedEmpty hs)
  | joined f it l u hl hroom hfree hu hf =>
    refine closedEmpty_withFlags (hf.closedEmpty
      (closedEmpty_foldl_appendItem hl (fun p hp => ?_) (hu.drains.closedEmpty hs)))
    obtain ⟨hstate, -⟩ := poolPart_eq_iff.mp (hu.port p)
    rw [hstate]
    exact not_closed_of_admits (hroom p hp).1
  | opened f p stamp params hclosed hrange hf =>
    refine closedEmpty_withFlags fun q hq => ?_
    rw [hf, port_openPort] at hq ⊢
    split at hq
    case isTrue => cases hq
    case isFalse hqp =>
      rw [if_neg hqp]
      exact hs q hq
  | reserved f hreserve hports => exact closedEmpty_withFlags (closedEmpty_of_ports hs hports)
  | emptied hports => exact fun p _ => by rw [hports]; rfl

theorem closedEmpty_of_poolSteps {s t : State} (h : PoolSteps s t) (hs : ClosedEmpty s) :
    ClosedEmpty t := by
  induction h with
  | refl => exact hs
  | tail _ hstep ih => exact closedEmpty_of_poolStep hstep ih

/-- What an event does before its end is moves of the pool. -/
theorem poolSteps_of_move {s t : State} (h : Move s t) : PoolSteps s t := by
  cases h with
  | receives | hearsNoise | freesLine | endsQuiet | sensesAttn => exact .of_ports
  | serves f => exact poolSteps_acceptFrame f s
  | findsMalformed =>
    exact (samePool_holdIfRunning .malformed (bump .malformed (frameReceived s))).steps.after_write
  | findsDamaged => exact (samePool_damagedNotice s).steps
  | losesLink => exact (samePool_silenceExpires s).steps
  | hearsPair c => exact poolSteps_withFlags (drains_tribChar c s)
  | hearsFrame address kind data =>
    exact poolSteps_withFlags (drains_goodTribFrame address kind data (huntTrib s)).after_write
  | hearsGap => exact poolSteps_withFlags (drains_tribGapExpires s)
  | sentPost => exact poolSteps_withFlags (drains_postSent s)
  | sentCommand => exact (samePool_commandSent s).steps
  | meetsDeadline => exact poolSteps_withFlags (drains_deadlineExpires s)
  | endsBusyWait p => exact ((samePool_stopBusyWait p s).trans .of_ports).steps
  | releasesPair => exact (samePool_releasePair s).steps

/-! ### Attended states -/

/-- On an IDLE bus either a decision is due, or no head is eligible and no scan is PENDING. -/
def Attended (s : State) : Prop :=
  s.bus = .idle → s.decisionDue = false → (∀ p, eligibleHead s p = none) ∧ s.scan ≠ .pending

theorem attended_of_due {s : State} (h : s.decisionDue = true) : Attended s := fun _ hnot => by
  rw [h] at hnot; cases hnot

theorem attended_of_not_idle {s : State} (h : s.bus ≠ .idle) : Attended s := fun hidle =>
  absurd hidle h

/-- If `s` is attended, so is `t`. -/
def KeepsAttended (s t : State) : Prop := Attended s → Attended t

theorem KeepsAttended.trans {s t u : State} (h : KeepsAttended s t) (h' : KeepsAttended t u) :
    KeepsAttended s u := h' ∘ h

theorem Heeds.keepsAttended {s t : State} (h : Heeds s t) : KeepsAttended s t := by
  intro hs hidle hdue
  have hidle' : s.bus = .idle := h.bus.symm.trans hidle
  have hdue' : s.decisionDue = false := by
    by_contra hnot
    rw [h.due (by simpa using hnot)] at hdue
    cases hdue
  obtain ⟨heligible, hscan⟩ := hs hidle' hdue'
  exact ⟨fun p => h.eligible hidle' hdue p (heligible p), fun hpending => hscan (h.scan hpending)⟩

theorem Ends.keepsAttended {s t : State} (h : Ends s t) : KeepsAttended s t := fun _ =>
  attended_of_due h.due

theorem keepsAttended_write {s t : State} (hports : t.ports = s.ports := by rfl)
    (hbus : t.bus = s.bus := by rfl) (hscan : t.scan = s.scan := by rfl)
    (hdue : t.decisionDue = s.decisionDue := by rfl)
    (hroom : entriesInUse s ≤ entriesInUse t := by exact le_refl _) : KeepsAttended s t := by
  have hrest : Heeds { s with tribRx := t.tribRx, resetHeld := t.resetHeld } t :=
    .of_ports hports hroom hbus rfl hscan hdue
  exact hrest.keepsAttended

theorem KeepsAttended.withFlags {f : State → State} {s : State} (h : KeepsAttended s (f s)) :
    KeepsAttended s (withFlags f s) := h.trans (heeds_withFlags f s).keepsAttended

theorem keepsAttended_holdIfRunning (c : HoldCause) (s : State) :
    KeepsAttended s (holdIfRunning c s) := by
  obtain ⟨-, h⟩ | ⟨-, -, h⟩ := holdIfRunning_cases c s
  · rw [h]; exact keepsAttended_write
  · rw [h]; exact id

/-! ### Frames of the uplink -/

theorem keepsAttended_counted {stamp : Count} {ty : Byte} {verdict : State → Verdict}
    {effect : State → State} {s : State}
    (h : verdict s = .accept → KeepsAttended s (effect s)) :
    KeepsAttended s (counted stamp ty verdict effect s) := by
  have hadvance : ∀ u, KeepsAttended u (advanceAC u) := fun u => keepsAttended_write
  obtain h' | ⟨-, -, h'⟩ | h' | h' := counted_cases stamp ty verdict effect s
  · rw [h']; exact keepsAttended_write
  · obtain ⟨hv, h''⟩ | ⟨r, -, -, h''⟩ | ⟨d, h''⟩ := admission_cases stamp ty (verdict s) effect s
    · rw [h', h'']; exact (h hv).withFlags.trans (hadvance _)
    · rw [h', h'']; exact (heeds_queueReport _ s).keepsAttended.trans (hadvance _)
    · rw [h', h'']; exact keepsAttended_write
  · rw [h']; exact keepsAttended_write
  · rw [h']; exact keepsAttended_write

theorem heeds_onPort {f : PortNo → State → State} {s : State} (h : ∀ p, Heeds s (f p s))
    (port : Byte) : Heeds s (onPort port f s) := by
  unfold onPort
  split
  · exact .refl s
  · exact h _

theorem keepsAttended_admittedOpen {port : Byte} {stamp : Count} {params : OpenParams} {s : State}
    (hs : ClosedEmpty s) (h : openVerdict port params s = .accept) :
    KeepsAttended s (onPort port (fun p s => openPort p stamp params s) s) := by
  obtain ⟨p, hp, hclosed, -⟩ := openVerdict_accept h
  rw [onPort_of_port hp]
  exact (heeds_openPort (hs p hclosed) stamp params).keepsAttended

theorem heeds_markEffect (stamp : Count) (echo : Byte) (s : State) :
    Heeds s (markEffect stamp echo s) := by
  unfold markEffect
  split
  · exact heeds_queueReport _ s
  · exact .refl s

theorem heeds_closeFrameEffect (stamp : Count) (port mode : Byte) (s : State) :
    Heeds s (closeFrameEffect stamp port mode s) := by
  unfold closeFrameEffect
  split
  · exact .refl s
  · exact heeds_onPort (fun p => heeds_closeEffect p _ stamp s) port

/-- A change of the scan enable brings a decision, and may stop the scan (R92, R135). -/
theorem heeds_writeScanEnable (on : Bool) (s : State) : Heeds s (writeScanEnable on s) := by
  unfold writeScanEnable
  split
  · exact .refl s
  · split
    · exact .of_due rfl
    · exact .of_due rfl rfl rfl nofun

theorem heeds_setupEffect (code reserve enable : Byte) (s : State) :
    Heeds s (setupEffect code reserve enable s) :=
  Heeds.trans .of_ports (heeds_writeScanEnable _ _)

/-- A TEND that acts hands its port to the dispatcher (R84). -/
theorem keepsAttended_tend (port action : Byte) (s : State) :
    KeepsAttended s (tend port action s) := by
  have hacts : ∀ p a, KeepsAttended s (tendEffect p a s) := fun p a _ => attended_of_due rfl
  unfold tend
  split
  · split
    · exact (hacts _ _).withFlags
    · exact keepsAttended_write
  · exact keepsAttended_write

theorem keepsAttended_answerQuery (tag kind argHi argLo : Byte) (s : State) :
    KeepsAttended s (answerQuery tag kind argHi argLo s) := by
  unfold answerQuery
  split
  · exact keepsAttended_write
  · split <;> exact keepsAttended_write
  · split <;> exact keepsAttended_write
  · split
    · exact keepsAttended_write
    · split <;> exact keepsAttended_write
  · exact keepsAttended_write
  · exact keepsAttended_write

theorem keepsAttended_answerRecall (rc : Count) (s : State) :
    KeepsAttended s (answerRecall rc s) := by
  unfold answerRecall
  split <;> exact keepsAttended_write

theorem keepsAttended_forSlot {f : State → State} {s : State} (h : KeepsAttended s (f s)) :
    KeepsAttended s (forSlot f s) := by
  unfold forSlot
  split
  · exact keepsAttended_write
  · exact h

theorem keepsAttended_resume (mode : Byte) (count : Count) (s : State) :
    KeepsAttended s (resume mode count s) := by
  unfold resume
  split <;> exact keepsAttended_write

theorem eligibleHead_of_resetPort {s : State} {p : PortNo} (h : s.port p = resetPort) :
    eligibleHead s p = none := by
  rw [eligibleHead_eq, h]; rfl

theorem attended_restartEffect (s : State) : Attended (restartEffect s) := fun _ _ =>
  ⟨fun _ => eligibleHead_of_resetPort (Vector.getElem_replicate _), nofun⟩

theorem keepsAttended_serve (f : HostFrame) {s : State} (hs : ClosedEmpty s) :
    KeepsAttended s (serve f s) := by
  match f with
  | .job k stamp port data =>
    exact keepsAttended_counted fun _ =>
      (heeds_onPort (fun p => heeds_appendItem _ s p) port).keepsAttended
  | .fence stamp m =>
    exact keepsAttended_counted fun _ => (heeds_placeFence stamp m s).keepsAttended
  | .mark stamp echo =>
    exact keepsAttended_counted fun _ => (heeds_markEffect stamp echo s).keepsAttended
  | .openPort stamp port params => exact keepsAttended_counted (keepsAttended_admittedOpen hs)
  | .close stamp port mode =>
    exact keepsAttended_counted fun _ => (heeds_closeFrameEffect stamp port mode s).keepsAttended
  | .setup stamp code reserve enable =>
    exact keepsAttended_counted fun _ => (heeds_setupEffect code reserve enable s).keepsAttended
  | .fill => exact id
  | .resume mode count => exact keepsAttended_resume mode count s
  | .restart => exact fun _ => attended_restartEffect s
  | .tend port action => exact keepsAttended_tend port action s
  | .query tag kind argHi argLo =>
    exact keepsAttended_forSlot (keepsAttended_answerQuery tag kind argHi argLo s)
  | .recall rc => exact keepsAttended_forSlot (keepsAttended_answerRecall rc s)

/-! ### Characters and timers of the pair -/

theorem keepsAttended_goodTribFrame (address kind : Byte) (data : List Byte) (s : State) :
    KeepsAttended s (goodTribFrame address kind data s) := by
  unfold goodTribFrame
  split
  · split
    · exact keepsAttended_write
    · split
      · exact (ends_judgeJob _ _ kind data s).keepsAttended
      · exact (ends_judgePoll _ kind data s).keepsAttended
  · exact keepsAttended_write
  · exact keepsAttended_write
  · exact id

theorem keepsAttended_damagedTribFrame (address : Option Byte) (s : State) :
    KeepsAttended s (damagedTribFrame address s) := by
  unfold damagedTribFrame
  split
  · split
    · split
      · exact (ends_badReply _ s).keepsAttended
      · exact id
    · split
      · exact (ends_deadlineTaken _ s).keepsAttended
      · exact id
  · exact id

theorem keepsAttended_addressByte (a : Byte) (s : State) : KeepsAttended s (addressByte a s) := by
  unfold addressByte
  split
  · split
    · exact fun _ => attended_of_not_idle nofun
    · split
      · exact (ends_deadlineTaken _ s).keepsAttended
      · exact id
  · exact id

theorem keepsAttended_endOfTribFrame (n : Nat) (bytes : List Byte) (s : State) :
    KeepsAttended s (endOfTribFrame n bytes s) := by
  unfold endOfTribFrame
  split
  · split
    · exact KeepsAttended.trans keepsAttended_write (keepsAttended_goodTribFrame _ _ _ (huntTrib s))
    · exact KeepsAttended.trans keepsAttended_write (keepsAttended_damagedTribFrame _ (huntTrib s))
  · exact id

theorem keepsAttended_tribFrameByte (bytes : List Byte) (s : State) :
    KeepsAttended s (tribFrameByte bytes s) := by
  unfold tribFrameByte
  split
  · exact KeepsAttended.trans keepsAttended_write (keepsAttended_addressByte _ _)
  · split
    · exact KeepsAttended.trans keepsAttended_write (keepsAttended_damagedTribFrame _ (huntTrib s))
    · exact keepsAttended_write
  · split
    · exact keepsAttended_endOfTribFrame _ _ s
    · exact keepsAttended_write
  · exact keepsAttended_write

theorem keepsAttended_tribChar (c : LineChar) (s : State) : KeepsAttended s (tribChar c s) := by
  unfold tribChar
  split
  · split
    · exact keepsAttended_write
    · exact id
  · split
    · exact KeepsAttended.trans keepsAttended_write (keepsAttended_damagedTribFrame _ (huntTrib s))
    · exact keepsAttended_tribFrameByte _ s

theorem keepsAttended_tribGapExpires (s : State) : KeepsAttended s (tribGapExpires s) := by
  unfold tribGapExpires
  split
  · exact id
  · exact KeepsAttended.trans keepsAttended_write (keepsAttended_damagedTribFrame _ (huntTrib s))

theorem keepsAttended_postSent (s : State) : KeepsAttended s (postSent s) := by
  unfold postSent
  split
  · exact fun _ => attended_of_due ((heeds_jobFinishes _ (dropTransaction s)).due rfl)
  · exact id

theorem keepsAttended_commandSent (s : State) : KeepsAttended s (commandSent s) := by
  unfold commandSent
  split
  · exact fun _ => attended_of_not_idle nofun
  · exact id

theorem keepsAttended_deadlineExpires (s : State) : KeepsAttended s (deadlineExpires s) := by
  unfold deadlineExpires
  split
  · split
    · exact fun _ => attended_of_not_idle nofun
    · exact (ends_deadlineTaken _ s).keepsAttended
  · exact id

theorem keepsAttended_releasePair (s : State) : KeepsAttended s (releasePair s) := by
  unfold releasePair
  split
  · exact fun _ => attended_of_not_idle nofun
  · exact id

/-! ### The moves and the end of an event -/

/-- What an event does before its end leaves an attended state attended. -/
theorem keepsAttended_of_move {s t : State} (h : Move s t) (hs : ClosedEmpty s) :
    KeepsAttended s t := by
  cases h with
  | receives | hearsNoise | freesLine | sensesAttn => exact keepsAttended_write
  | serves f =>
    exact KeepsAttended.trans keepsAttended_write
      (keepsAttended_serve f (closedEmpty_of_ports (t := frameReceived s) hs rfl))
  | findsMalformed | findsDamaged | losesLink =>
    exact KeepsAttended.trans keepsAttended_write (keepsAttended_holdIfRunning _ _)
  | hearsPair c => exact (keepsAttended_tribChar c s).withFlags
  | hearsFrame address kind data =>
    refine KeepsAttended.withFlags ?_
    exact KeepsAttended.trans keepsAttended_write
      (keepsAttended_goodTribFrame address kind data (huntTrib s))
  | hearsGap => exact (keepsAttended_tribGapExpires s).withFlags
  | sentPost => exact (keepsAttended_postSent s).withFlags
  | sentCommand => exact keepsAttended_commandSent s
  | meetsDeadline => exact (keepsAttended_deadlineExpires s).withFlags
  | endsBusyWait | endsQuiet => exact fun _ => attended_of_due rfl
  | releasesPair => exact keepsAttended_releasePair s

/-- With no decision due, a choice leaves what the arbiter reads (R92, R152). -/
theorem choose_undecided {s : State} (h : (choose s).decisionDue = false) :
    s.decisionDue = false ∧ (choose s).scan = s.scan ∧ (choose s).bus = s.bus ∧
      ∀ p, eligibleHead (choose s) p = eligibleHead s p := by
  have hframe := choose_eq s
  obtain ⟨hreports, hdue⟩ : (choose s).reports = s.reports ∧
      (choose s).decisionDue = s.decisionDue := by
    obtain ⟨hself, -⟩ | ⟨-, -, -, hkept | hdue⟩ := choose_cases s
    · rw [hself]; exact ⟨rfl, rfl⟩
    · exact hkept
    · rw [hdue] at h; cases h
  refine ⟨hdue ▸ h, by rw [hframe]; rfl, by rw [hframe]; rfl, fun p => ?_⟩
  refine eligibleHead_congr (offers_choose s p) ?_
  rw [entryFree, entryFree, entriesInUse, entriesInUse, hreports]
  rw [hframe]; rfl

theorem scanDue_choose (s : State) : scanDue (choose s) = scanDue s := by
  have hlistens : ∀ p, ((choose s).port p).listens = (s.port p).listens := fun p => by
    obtain ⟨hstate, hparams, -⟩ := poolPart_eq_iff.mp ((samePool_choose s).port p)
    rw [Port.listens, Port.listens, Port.bound, Port.bound, hstate, hparams]
  unfold scanDue
  simp only [hlistens]
  rw [choose_eq, State.chosenAs]

theorem arbitrate_served {s : State} (h : Attended s)
    (hidle : (arbitrate (choose (evalScan s))).bus = .idle) :
    NothingToServe (arbitrate (choose (evalScan s))) := by
  have hbus : (choose (evalScan s)).bus = .idle := by
    obtain ⟨hwas, -⟩ | ⟨hstays, -⟩ := arbitrate_outcome (choose (evalScan s))
    · exact hwas
    · exact hstays.symm.trans hidle
  cases hdue : (choose (evalScan s)).decisionDue with
  | true =>
    rw [arbitrate_eq_decision hbus hdue] at hidle ⊢
    obtain ⟨⟨x, hx⟩, -⟩ | ⟨-, -, hserved⟩ := decision_outcome hbus
    · rw [hx] at hidle; cases hidle
    · exact hserved
  | false =>
    have hundecided : arbitrate (choose (evalScan s)) = choose (evalScan s) :=
      if_neg (by rw [hdue]; nofun)
    obtain ⟨hnone, hscan, hkept, heligible⟩ := choose_undecided hdue
    have hself : evalScan s = s := by
      obtain hself | ⟨-, hpending⟩ := evalScan_cases s
      · exact hself
      · rw [hpending] at hnone; cases hnone
    have hnotDue := not_scanDue_evalScan s
    rw [hundecided]
    rw [hself] at hnone hscan hkept heligible hnotDue hbus ⊢
    obtain ⟨hall, hpending⟩ := h (hkept.symm.trans hbus) hnone
    exact ⟨fun p => (heligible p).trans (hall p), hscan ▸ hpending, by rwa [scanDue_choose]⟩

/-- On a bus that is still IDLE at the end of an event nothing is left to serve (R92, R129). -/
theorem endEvent_served {s : State} (h : Attended s) (hidle : (endEvent s).bus = .idle) :
    (∀ p, eligibleHead (endEvent s) p = none) ∧ (endEvent s).scan ≠ .pending := by
  have hserved : NothingToServe (arbitrate (choose (evalScan s))) :=
    arbitrate_served h ((evalScan_bus _).1.symm.trans hidle)
  have hend : endEvent s =
      { arbitrate (choose (evalScan s)) with decisionDue := false } := by
    rw [endEvent, evalScan_of_not_due hserved.due]
  rw [hend]
  exact ⟨hserved.eligible, hserved.scan⟩

/-- Settles O59: within the event a decision is due wherever a head becomes eligible, and its end
takes the decision. -/
theorem stepKeepsBusServed : Obligations.StepKeepsBusServed := by
  have hreset : ∀ rate held s, ClosedEmpty (pinReset rate held s) := fun rate held s p _ =>
    congrArg Port.queue (port_reset p)
  refine fun s t => step_keeps_of_moves (P := fun s => BusServed s)
    (Q := fun s => ClosedEmpty s ∧ Attended s) (fun _ _ => id) ?_ ?_ ?_ (fun _ _ => id) ?_
  · exact fun s ⟨hserved, hempty⟩ => ⟨hempty, fun hidle _ => hserved hidle⟩
  · exact fun s t h ⟨hempty, hattended⟩ =>
      ⟨closedEmpty_of_poolSteps (poolSteps_of_move h) hempty,
        keepsAttended_of_move h hempty hattended⟩
  · exact fun s ⟨hempty, hattended⟩ =>
      ⟨endEvent_served hattended, (samePool_endEvent s).drains.closedEmpty hempty⟩
  · exact fun rate s =>
      ⟨⟨nofun, hreset rate true s⟩, hreset rate false s, attended_of_not_idle nofun⟩

end Sys2Proof.Machine
end

section
/-! PROOF. The pair while the hub drives it: the frame in SENDING bit by bit, the character that a
RESTART lets finish, and the end of sending (R98 to R100, R111, R131, R181, R182); and RESTART
itself (R45, R46, R111, R160). -/

namespace Sys2Proof.Machine

/-! ### RESTART -/

/-- Settles O19: the frame is received, and RESTART writes every block anew. -/
theorem restart : Obligations.Restart := by
  intro s h
  rw [exec_of_carried_hostFrame rfl rfl h, serve, restartEffect, frameReceived_stream]
  cases s.stream with
  | run => rfl
  | hold c => rfl

/-! ### The frame on the pair -/

theorem drivenFrame_sending {s : State} {t : Transaction} (h : s.bus = .sending t) :
    drivenFrame s = some (transactionFrame t (s.port t.port).queue) := by
  rw [drivenFrame, h]

/-- What stands at a bit time of byte `i` of the driven frame. -/
theorem drivenLevel_byte {s : State} {bytes : List Byte} {i j : Nat} {b : Byte} {l : Bool}
    (hframe : drivenFrame s = some bytes) (hb : bytes[i]? = some b) (hj : j < 10)
    (hl : (charLevels ⟨b, false⟩)[j]? = some l) : drivenLevel s (10 * i + j) = some l := by
  rw [drivenLevel, hframe, Option.map_some, getElem?_bytesLevels bytes i j b hb hj, hl]
  rfl

theorem drivenLevel_of_no_frame {s : State} (h : drivenFrame s = none) (k : Nat) :
    drivenLevel s k = none := by
  rw [drivenLevel, h, Option.map_none]

theorem drivenLevel_congr {s t : State} (h : drivenFrame t = drivenFrame s) (k : Nat) :
    drivenLevel t k = drivenLevel s k := by
  rw [drivenLevel, drivenLevel, h]

theorem tbdir_iff (s : State) :
    tbdir s = true ↔ (∃ t, s.bus = .sending t) ∨ ∃ n f, s.bus = .quiet n (some f) := by
  unfold tbdir
  cases s.bus <;> simp [Option.isSome_iff_exists]

theorem frameDriven : Sys2Proof.Claim.FrameDriven := by
  intro s
  refine ⟨fun t frame hbus hframe => ⟨fun k st data a b rest hqueue => ⟨fun hkind => ?_,
    fun hkind => ?_⟩, fun hkind => ?_⟩, fun bytes hbytes i b hb => ⟨?_, fun j hj => ?_, ?_⟩,
    fun n frame hbus => ?_, fun hbus => ?_, fun htbdir k => ?_, tbdir_iff s⟩
  · rw [drivenFrame_sending hbus, transactionFrame, hkind, hqueue, hframe]; rfl
  · rw [drivenFrame_sending hbus, transactionFrame, hqueue, hframe]
    obtain hkind | hkind := hkind
    · rw [hkind]; rfl
    · rw [hkind]; rfl
  · rw [drivenFrame_sending hbus, transactionFrame, hkind, hframe]; rfl
  · exact drivenLevel_byte (j := 0) hbytes hb (by omega) rfl
  · rw [Nat.add_assoc]
    exact drivenLevel_byte hbytes hb (by omega) (getElem?_charLevels_data ⟨b, false⟩ j hj)
  · exact drivenLevel_byte hbytes hb (by omega) rfl
  · rw [drivenFrame, hbus]
  · obtain hidle | ⟨t, d, hawaiting⟩ := hbus
    · rw [drivenFrame, hidle]
    · rw [drivenFrame, hawaiting]
  · rw [tbdir_eq_isSome_drivenFrame, Option.isSome_eq_false_iff,
      Option.isNone_iff_eq_none] at htbdir
    exact drivenLevel_of_no_frame htbdir k

/-! ### The abandoned character -/

theorem abandonedLevel_of_no_frame {s : State} (h : drivenFrame s = none) (r k : Nat) :
    abandonedLevel r s k = none := by
  rw [abandonedLevel, drivenLevel_of_no_frame h, ite_self]

theorem drivenFrame_quiet {s : State} {n : Byte} {frame : Option (List Byte)}
    (h : s.bus = .quiet n frame) : drivenFrame s = frame := by
  rw [drivenFrame, h]

theorem tbdir_quiet {s : State} {n : Byte} {frame : Option (List Byte)}
    (h : s.bus = .quiet n frame) : tbdir s = frame.isSome := by
  rw [tbdir, h]

/-- The end of an event leaves a QUIET bus QUIET (R92, R113). -/
theorem bus_endEvent_quiet {s : State} {n : Byte} {frame : Option (List Byte)}
    (h : s.bus = .quiet n frame) : (endEvent s).bus = .quiet n frame := by
  rw [← h]
  exact (endEvent_of_not_idle (by rw [h]; nofun)).1

theorem bus_restartEffect_sending {s : State} {t : Transaction} (h : s.bus = .sending t) :
    (restartEffect s).bus = .quiet t.replyTimeout (drivenFrame s) := by
  rw [restartEffect, abandonedBus, h]

theorem characterFinished : Sys2Proof.Claim.CharacterFinished := by
  intro t s h hbus
  have hu : (endEvent (restartEffect (frameReceived s))).bus =
      .quiet t.replyTimeout (some (transactionFrame t (s.port t.port).queue)) := by
    have hframe : drivenFrame (frameReceived s) = some (transactionFrame t (s.port t.port).queue) :=
      drivenFrame_sending (s := frameReceived s) hbus
    exact bus_endEvent_quiet ((bus_restartEffect_sending (s := frameReceived s) hbus).trans
      (by rw [hframe]))
  have hrestart : exec .restart s = .next (endEvent (restartEffect (frameReceived s))) := by
    rw [exec_of_carried_hostFrame rfl rfl h, serve]
  have hheld : (endEvent (restartEffect (frameReceived s))).resetHeld = false := by
    rw [resetHeld_endEvent, restartEffect]
    cases (frameReceived s).stream <;> exact h
  generalize endEvent (restartEffect (frameReceived s)) = u at hu hrestart hheld
  have hreleased : releasePair u = { u with bus := .quiet t.replyTimeout none } := by
    rw [releasePair, hu]
  have hend : exec .abandonedCharacterEnd u =
      .next (endEvent { u with bus := .quiet t.replyTimeout none }) := by
    rw [← hreleased]
    exact congrArg _ (eventIf_of_running hheld (by rw [abandonedChar, hu]; rfl) releasePair)
  have hv : (endEvent { u with bus := .quiet t.replyTimeout none }).bus =
      .quiet t.replyTimeout none := bus_endEvent_quiet rfl
  refine ⟨_, u, _, drivenFrame_sending hbus, hrestart, hu, tbdir_quiet hu, fun r k => ⟨fun hk => ?_,
    fun hk => if_neg hk⟩, hend, hv, tbdir_quiet hv,
    abandonedLevel_of_no_frame (drivenFrame_quiet hv)⟩
  rw [abandonedLevel, if_pos hk]
  exact drivenLevel_congr ((drivenFrame_quiet hu).trans (drivenFrame_sending hbus).symm) k

/-! ### The end of sending -/

theorem postSent_eq {s : State} {t : Transaction} {it : Item} {rest : List Item}
    (hbus : s.bus = .sending t) (hqueue : (s.port t.port).queue = it :: rest) :
    postSent s =
      afterHeads none
        { modPort t.port (fun x => { x with
            queue := rest, settled := it.stamp, dirty := true }) s with
          bus := .idle, free := s.free + 1, progressPending := true, decisionDue := true } := by
  rw [postSent, hbus]
  exact congrArg (afterHeads none) (settleHead_eq (s := dropTransaction s) hqueue)

theorem postSettles : Sys2Proof.Claim.PostSent := by
  intro t it rest s h hbus hkind hqueue
  have hposted : sendingPost s = true := by simp [sendingPost, hbus, hkind]
  exact (congrArg Host.Outcome.next (eventIf_of_running h hposted _)).trans
    (congrArg (Host.Outcome.next ∘ endEvent) (withFlags_congr (postSent_eq hbus hqueue)))

theorem commandSent_eq {s : State} {t : Transaction} (h : s.bus = .sending t) :
    commandSent s = { s with bus := .awaiting t .running } := by
  rw [commandSent, h]

theorem commandAwaits : Sys2Proof.Claim.CommandSent := by
  intro t s h hbus
  rw [← commandSent_eq hbus]
  refine ⟨fun hkind => ?_, fun hkind => ?_⟩
  · have hsent : sendingCommand s = true := by
      simpa [sendingCommand, hbus] using hkind
    exact congrArg _ (eventIf_of_running h hsent _)
  · have hsent : sendingPoll s = true := by simp [sendingPoll, hbus, hkind]
    exact congrArg _ (eventIf_of_running h hsent _)

/-- Settles O34: the frame by its envelope and its characters, the RESTART by the bus it leaves, and
each end of sending by its trigger. -/
theorem endOfSending : Obligations.EndOfSending :=
  ⟨frameDriven, characterFinished, postSettles, commandAwaits⟩

end Sys2Proof.Machine
end

section
/-! PROOF. The tributary receiver character by character (R91): what a character does in each phase,
START and address against the reply deadline (R101), and the frames that end damaged (R102). -/

namespace Sys2Proof.Machine

/-! ### Events of one character -/

/-- A part of an event that leaves the port records and the pool alone leaves the flags alone. -/
theorem withFlags_of_ports {f : State → State} {s t : State} (hf : f s = t)
    (hports : t.ports = s.ports := by rfl) (hfree : t.free = s.free := by rfl)
    (hreserve : t.poolReserve = s.poolReserve := by rfl) : withFlags f s = t := by
  rw [withFlags_of_occupancies_eq, hf]
  · intro p
    rw [hf, State.port, State.port, hports]
  · rw [hf, hfree]
  · rw [hf, hreserve]

theorem tribCharEvent_of_on {s : State} (h : s.resetHeld = false) (hon : tbdir s = false)
    (c : LineChar) : tribCharEvent c s = endEvent (withFlags (tribChar c) s) :=
  eventIf_of_running h (by rw [receiverOn, hon]; rfl) _

/-- While the hub drives the pair no character is received (R91). -/
theorem tribCharEvent_of_driven {s : State} (hdriven : tbdir s = true) (c : LineChar) :
    tribCharEvent c s = s := if_neg (by rw [receiverOn, hdriven]; nofun)

theorem tbdir_awaiting {s : State} {t : Transaction} {d : Deadline} (h : s.bus = .awaiting t d) :
    tbdir s = false := by
  rw [tbdir, h]

theorem exec_char (c : LineChar) (s : State) :
    exec (.tributaryDamagedFrame [c]) s = .next (tribCharEvent c s) := rfl

theorem tribInFrame_eq {s : State} {bytes : List Byte} (h : s.tribRx = .inFrame bytes) :
    tribInFrame s = true := by
  rw [tribInFrame, h]

theorem tribInFrame_hunt {s : State} (h : s.tribRx = .hunt) : tribInFrame s = false := by
  rw [tribInFrame, h]

theorem exec_gapExpiry {s : State} {bytes : List Byte} (h : s.resetHeld = false)
    (hrx : s.tribRx = .inFrame bytes) :
    exec .tributaryCharacterGapExpiry s = .next (endEvent (withFlags tribGapExpires s)) :=
  congrArg Host.Outcome.next
    (eventIf_of_running h (tribInFrame_eq hrx) (withFlags tribGapExpires))

/-! ### A character in each phase -/

theorem tribChar_start {s : State} (h : s.tribRx = .hunt) :
    tribChar ⟨Config.tribStart, false⟩ s = { s with tribRx := .inFrame [] } := by
  rw [tribChar, h]; rfl

theorem tribChar_noStart {s : State} {c : LineChar} (h : s.tribRx = .hunt)
    (hc : c.framingError = true ∨ c.byte ≠ Config.tribStart) : tribChar c s = s := by
  rw [tribChar, h]
  refine if_neg ?_
  rintro ⟨hbyte, hsound⟩
  obtain herror | hother := hc
  · rw [hsound] at herror; cases herror
  · exact hother hbyte

theorem tribChar_framingError {s : State} {bytes : List Byte} (h : s.tribRx = .inFrame bytes)
    (b : Byte) : tribChar ⟨b, true⟩ s = damagedTribFrame bytes.head? (huntTrib s) := by
  rw [tribChar, h]; rfl

theorem tribChar_sound {s : State} {bytes : List Byte} (h : s.tribRx = .inFrame bytes) (b : Byte) :
    tribChar ⟨b, false⟩ s = tribFrameByte (bytes ++ [b]) s := by
  rw [tribChar, h]; rfl

theorem tribGapExpires_eq {s : State} {bytes : List Byte} (h : s.tribRx = .inFrame bytes) :
    tribGapExpires s = damagedTribFrame bytes.head? (huntTrib s) := by
  rw [tribGapExpires, h]

theorem tribChar_address {s : State} (h : s.tribRx = .inFrame []) (a : Byte) :
    tribChar ⟨a, false⟩ s = addressByte a { s with tribRx := .inFrame [a] } := tribChar_sound h a

theorem addressByte_awaited {s : State} {t : Transaction} {d : Deadline}
    (h : s.bus = .awaiting t d) :
    addressByte t.address s = { s with bus := .awaiting t .met } := by
  rw [addressByte, h]
  exact if_pos rfl

theorem addressByte_passed {s : State} {t : Transaction} {a : Byte}
    (h : s.bus = .awaiting t .passed) (ha : a ≠ t.address) :
    addressByte a s = deadlineTaken t s := by
  rw [addressByte, h]
  exact (if_neg ha).trans (if_pos rfl)

/-- Any other address byte is only received. -/
theorem addressByte_other {s : State} {a : Byte}
    (h : ∀ t d, s.bus = .awaiting t d → a ≠ t.address ∧ d ≠ .passed) : addressByte a s = s := by
  unfold addressByte
  split
  case h_1 t d hbus =>
    obtain ⟨ha, hd⟩ := h t d hbus
    exact (if_neg ha).trans (if_neg hd)
  case h_2 => rfl

/-! ### Frames that end damaged -/

theorem damagedTribFrame_none {s : State} {t : Transaction} {d : Deadline}
    (h : s.bus = .awaiting t d) :
    damagedTribFrame none s = if d = .passed then deadlineTaken t s else s := by
  rw [damagedTribFrame, h]

theorem damagedTribFrame_awaited {s : State} {t : Transaction} {d : Deadline}
    (h : s.bus = .awaiting t d) : damagedTribFrame (some t.address) s = badReply t s := by
  rw [damagedTribFrame, h]
  exact if_pos rfl

/-- A damaged frame without the awaited address, and with no passed deadline that waits for one. -/
theorem damagedTribFrame_other {s : State} {address : Option Byte}
    (h : ∀ t d, s.bus = .awaiting t d →
      address ≠ some t.address ∧ ¬ (d = .passed ∧ address = none)) :
    damagedTribFrame address s = s := by
  unfold damagedTribFrame
  split
  case h_1 t d hbus =>
    obtain ⟨haddress, hpassed⟩ := h t d hbus
    cases address with
    | some a => exact if_neg fun ha => haddress (congrArg some ha)
    | none => exact if_neg fun hd => hpassed ⟨hd, rfl⟩
  case h_2 => rfl

/-- The characters so far and this one end the frame as the character gap does. -/
theorem char_ends_as_gap {s : State} {bytes : List Byte} (h : s.resetHeld = false)
    (hon : tbdir s = false) (hrx : s.tribRx = .inFrame bytes) {c : LineChar}
    (hc : tribChar c s = damagedTribFrame bytes.head? (huntTrib s)) :
    exec (.tributaryDamagedFrame [c]) s = exec .tributaryCharacterGapExpiry s := by
  rw [exec_char, tribCharEvent_of_on h hon, exec_gapExpiry h hrx,
    withFlags_congr (hc.trans (tribGapExpires_eq hrx).symm)]

theorem tribFrameByte_longLen {a k len : Byte} (h : 25 < len.toNat) (s : State) :
    tribFrameByte [a, k, len] s = damagedTribFrame (some a) (huntTrib s) := if_pos h

/-- The bytes of a complete frame: address, kind, LEN, data, CRC. -/
theorem tribFrameByte_complete {a k len : Byte} {data : List Byte} (h : data.length = len.toNat)
    (hi lo : Byte) (s : State) :
    tribFrameByte (a :: k :: len :: (data ++ [hi, lo])) s =
      endOfTribFrame len.toNat (a :: k :: len :: (data ++ [hi, lo])) s := by
  have hlength : (a :: k :: len :: (data ++ [hi, lo])).length = len.toNat + 5 := by
    simp only [List.length_cons, List.length_append, List.length_nil]; omega
  cases data with
  | nil => exact if_pos hlength
  | cons b data => exact if_pos hlength

/-- The end of a complete frame turns on the CRC (R91). -/
theorem endOfTribFrame_complete {n : Nat} {data : List Byte} (h : data.length = n)
    (a k len hi lo : Byte) (s : State) :
    endOfTribFrame n (a :: k :: len :: (data ++ [hi, lo])) s =
      if crc16 (a :: k :: len :: data) = word16 hi lo then goodTribFrame a k data (huntTrib s)
      else damagedTribFrame (some a) (huntTrib s) := by
  have hcovered : (a :: k :: len :: (data ++ [hi, lo])).take (n + 3) = a :: k :: len :: data :=
    congrArg (a :: k :: len :: ·) (List.take_left' h)
  have hcrc : (a :: k :: len :: (data ++ [hi, lo])).drop (n + 3) = [hi, lo] := List.drop_left' h
  have hiff : bytes16 (crc16 (a :: k :: len :: data)) = [hi, lo] ↔
      crc16 (a :: k :: len :: data) = word16 hi lo := by
    rw [← bytes16_word16, bytes16_inj]
  have hdata : (data ++ [hi, lo]).take n = data := List.take_left' h
  simp only [endOfTribFrame, hcovered, hcrc, hiff, hdata]

/-- Settles O41: each ending is the damaged frame of its address byte, as at the character gap. -/
theorem damagedTributaryFrame : Obligations.DamagedTributaryFrame := by
  intro s h
  refine ⟨fun c rest => rfl, fun hrx b hb hon => ?_, fun bytes hrx hon => ⟨fun b => ?_,
    fun b hlength hlen => ?_, fun a k n data hi lo hbytes hdata hcrc => ?_, fun hother => ?_⟩⟩
  · rw [exec_char, tribCharEvent_of_on h hon, withFlags_of_ports (tribChar_noStart hrx hb)]
  · exact char_ends_as_gap h hon hrx (tribChar_framingError hrx b)
  · obtain ⟨a, k, rfl⟩ := List.length_eq_two.mp hlength
    exact char_ends_as_gap h hon hrx ((tribChar_sound hrx b).trans (tribFrameByte_longLen hlen s))
  · have hall : bytes ++ [lo] = a :: k :: n :: (data ++ [hi, lo]) := by rw [hbytes]; simp
    refine char_ends_as_gap h hon hrx ?_
    rw [tribChar_sound hrx, hall, tribFrameByte_complete hdata, endOfTribFrame_complete hdata,
      if_neg (Ne.symm hcrc), hbytes]
    rfl
  · have hgap : tribGapExpires s = huntTrib s := by
      refine (tribGapExpires_eq hrx).trans (damagedTribFrame_other fun t d hbus => ?_)
      obtain ⟨haddress, hpassed⟩ := hother t d hbus
      exact ⟨haddress, fun hd => hpassed (hd.imp_right List.head?_eq_none_iff.mp)⟩
    rw [exec_gapExpiry h hrx, withFlags_of_ports hgap]
    rfl

/-! ### The reply deadline -/

theorem exec_deadlineMet_inFrame {s : State} {bytes : List Byte} (hrx : s.tribRx = .inFrame bytes)
    (a : Byte) : exec (.deadlineMet (some a)) s = .next (tribCharEvent ⟨a, false⟩ s) := by
  unfold exec execDeadlineMet
  dsimp only
  rw [if_pos (tribInFrame_eq hrx)]

theorem exec_deadlineMet_hunt {s : State} (hrx : s.tribRx = .hunt) (a : Byte) :
    exec (.deadlineMet (some a)) s =
      .next (tribCharEvent ⟨a, false⟩ (tribCharEvent ⟨Config.tribStart, false⟩ s)) := by
  unfold exec execDeadlineMet
  dsimp only
  rw [if_neg (by rw [tribInFrame_hunt hrx]; nofun)]

theorem exec_deadlineExpiry {s : State} {t : Transaction} (h : s.resetHeld = false)
    (hbus : s.bus = .awaiting t .running) :
    exec .deadlineExpiry s = .next (endEvent (withFlags deadlineExpires s)) :=
  congrArg Host.Outcome.next
    (eventIf_of_running h (by rw [deadlineRuns, hbus]) (withFlags deadlineExpires))

/-- With a START held alone the expiry only records that the deadline has passed (R101). -/
theorem deadlineExpires_start {s : State} {t : Transaction} {d : Deadline}
    (hbus : s.bus = .awaiting t d) (hrx : s.tribRx = .inFrame []) :
    deadlineExpires s = { s with bus := .awaiting t .passed } := by
  rw [deadlineExpires, hbus]
  exact if_pos hrx

theorem deadlineExpires_taken {s : State} {t : Transaction} {d : Deadline}
    (hbus : s.bus = .awaiting t d) (hrx : s.tribRx ≠ .inFrame []) :
    deadlineExpires s = deadlineTaken t s := by
  rw [deadlineExpires, hbus]
  exact if_neg hrx

/-- Settles O35: by the phase of the receiver, and where the START is held alone by what comes
next. -/
theorem deadlineAndAddress : Obligations.DeadlineAndAddress := by
  intro t d s h hbus
  have hon := tbdir_awaiting hbus
  refine ⟨fun hrx => ⟨?_, fun a => ?_⟩, fun hrx => ⟨?_, ?_, ?_, fun a ha => ⟨?_, ?_⟩⟩, ?_⟩
  · change Host.Outcome.next (tribCharEvent ⟨Config.tribStart, false⟩ s) = _
    rw [tribCharEvent_of_on h hon, withFlags_of_ports (tribChar_start hrx)]
  · rw [exec_deadlineMet_hunt hrx]; rfl
  · rintro rfl
    rw [exec_deadlineExpiry h hbus, withFlags_of_ports (deadlineExpires_start hbus hrx)]
  · rw [exec_gapExpiry h hrx]
    exact congrArg (Host.Outcome.next ∘ endEvent) (withFlags_congr
      ((tribGapExpires_eq hrx).trans (damagedTribFrame_none (s := huntTrib s) hbus)))
  · have haddress := (tribChar_address hrx t.address).trans
      (addressByte_awaited (s := { s with tribRx := .inFrame [t.address] }) hbus)
    rw [exec_deadlineMet_inFrame hrx, tribCharEvent_of_on h hon, withFlags_of_ports haddress]
  · intro hd
    have haddress := (tribChar_address hrx a).trans (addressByte_other fun t' d' hbus' => by
      cases hbus.symm.trans hbus'
      exact ⟨ha, hd⟩)
    rw [exec_deadlineMet_inFrame hrx, tribCharEvent_of_on h hon, withFlags_of_ports haddress]
  · rintro rfl
    have haddress := (tribChar_address hrx a).trans
      (addressByte_passed (s := { s with tribRx := .inFrame [a] }) hbus ha)
    rw [exec_deadlineMet_inFrame hrx, tribCharEvent_of_on h hon]
    exact congrArg (Host.Outcome.next ∘ endEvent) (withFlags_congr haddress)
  · rintro hrx rfl
    rw [exec_deadlineExpiry h hbus, withFlags_congr (deadlineExpires_taken hbus hrx)]

end Sys2Proof.Machine
end

section
/-! PROOF. Good tributary frames (R91, R101, R109, R181): their arrival as one command, strays, and
the characters of a frame one by one, which a resting hub takes up to the last without any other
change. -/

namespace Sys2Proof.Machine

/-! ### The arrival of a good frame -/

/-- A good frame of this address, kind and data field ends. -/
def goodFrameEnds (address kind : Byte) (data : List Byte) (s : State) : State :=
  withFlags (fun s => goodTribFrame address kind data (huntTrib s)) s

theorem strangerAfterPassed_iff {s : State} {a : Byte} :
    strangerAfterPassed a s = true ↔
      ∃ t, s.bus = .awaiting t .passed ∧ s.tribRx = .inFrame [] ∧ t.address ≠ a := by
  unfold strangerAfterPassed
  split
  case h_1 t hbus => simp [hbus, ne_comm]
  case h_2 hnot =>
    exact iff_of_false nofun fun ⟨t, hbus, _⟩ => hnot t hbus

theorem not_strangerAfterPassed {s : State} {a : Byte}
    (h : ∀ t, s.bus = .awaiting t .passed → s.tribRx = .inFrame [] → t.address = a) :
    strangerAfterPassed a s = false := by
  rw [← Bool.not_eq_true, strangerAfterPassed_iff]
  rintro ⟨t, hbus, hrx, ha⟩
  exact ha (h t hbus hrx)

theorem tribFrameArrives_at_once {s : State} {a : Byte} (h : strangerAfterPassed a s = false)
    (kind : Byte) (data : List Byte) :
    tribFrameArrives a kind data s = eventIf receiverOn (goodFrameEnds a kind data) s :=
  if_neg (by rw [h]; nofun)

theorem tribFrameArrives_stranger {s : State} {a : Byte} (h : strangerAfterPassed a s = true)
    (kind : Byte) (data : List Byte) :
    tribFrameArrives a kind data s =
      eventIf tribInFrame (goodFrameEnds a kind data) (tribCharEvent ⟨a, false⟩ s) := if_pos h

theorem exec_of_carried_goodFrame {c : Instr} {a kind : Byte} {body : List Byte}
    (hf : goodFrameOf c = some (a, kind, body)) (hc : c.carried = true) (s : State) :
    exec c s = .next (tribFrameArrives a kind body s) := by
  rw [exec_of_goodFrame hf, if_pos hc]

/-- With the receiver on, a good frame ends in the event of its last byte. -/
theorem exec_of_heard_goodFrame {c : Instr} {a kind : Byte} {body : List Byte} {s : State}
    (hf : goodFrameOf c = some (a, kind, body)) (hc : c.carried = true) (h : s.resetHeld = false)
    (hon : tbdir s = false) (hstranger : strangerAfterPassed a s = false) :
    exec c s = .next (endEvent (goodFrameEnds a kind body s)) := by
  rw [exec_of_carried_goodFrame hf hc, tribFrameArrives_at_once hstranger,
    eventIf_of_running h (by rw [receiverOn, hon]; rfl)]

/-! ### Strays -/

/-- The frame is not awaited, and the pair is not driven in SENDING. -/
theorem goodTribFrame_stray {s : State} {a : Byte}
    (h : s.bus = .idle ∨ (∃ n f, s.bus = .quiet n f) ∨
      ∃ t d, s.bus = .awaiting t d ∧ t.address ≠ a) (kind : Byte) (body : List Byte) :
    goodTribFrame a kind body s = bump .strayReply s := by
  obtain hbus | ⟨n, f, hbus⟩ | ⟨t, d, hbus, ha⟩ := h
  · rw [goodTribFrame, hbus]
  · rw [goodTribFrame, hbus]
  · rw [goodTribFrame, hbus]
    exact if_pos ha.symm

theorem goodFrameEnds_stray {s : State} {a : Byte}
    (h : s.bus = .idle ∨ (∃ n f, s.bus = .quiet n f) ∨
      ∃ t d, s.bus = .awaiting t d ∧ t.address ≠ a) (kind : Byte) (body : List Byte) :
    goodFrameEnds a kind body s = { bump .strayReply s with tribRx := .hunt } :=
  withFlags_of_ports (goodTribFrame_stray (s := huntTrib s) h kind body)

theorem stray : Sys2Proof.Claim.Stray := by
  intro c a kind body s h hf hc hbus
  have hon : tbdir s = false := by
    obtain hidle | ⟨n, hquiet⟩ | ⟨t, d, hawaiting, -⟩ := hbus
    · rw [tbdir, hidle]
    · rw [tbdir, hquiet]; rfl
    · exact tbdir_awaiting hawaiting
  have hstranger : strangerAfterPassed a s = false := by
    refine not_strangerAfterPassed fun t hpassed hrx => ?_
    obtain hidle | ⟨n, hquiet⟩ | ⟨t', d, hawaiting, -, hnot⟩ := hbus
    · rw [hidle] at hpassed; cases hpassed
    · rw [hquiet] at hpassed; cases hpassed
    · cases hawaiting.symm.trans hpassed
      exact absurd ⟨rfl, hrx⟩ hnot
  rw [exec_of_heard_goodFrame hf hc h hon hstranger, goodFrameEnds_stray]
  exact hbus.imp id (Or.imp (fun ⟨n, hn⟩ => ⟨n, none, hn⟩) fun ⟨t, d, ht, ha, _⟩ => ⟨t, d, ht, ha⟩)

theorem tribChar_strangerAddress {s : State} {t : Transaction} {a : Byte}
    (hbus : s.bus = .awaiting t .passed) (hrx : s.tribRx = .inFrame []) (ha : t.address ≠ a) :
    tribChar ⟨a, false⟩ s = deadlineTaken t { s with tribRx := .inFrame [a] } :=
  (tribChar_address hrx a).trans
    (addressByte_passed (s := { s with tribRx := .inFrame [a] }) hbus ha.symm)

/-- The address byte of a stranger after the deadline has passed lets it be taken (R101): either the
event then begins a transaction, or the bus is IDLE and the frame goes on. -/
theorem strangerAddress_outcome {s : State} {t : Transaction} {a : Byte}
    (h : s.resetHeld = false) (hbus : s.bus = .awaiting t .passed) (hrx : s.tribRx = .inFrame [])
    (ha : t.address ≠ a) :
    Begins (tribCharEvent ⟨a, false⟩ s) ∨
      (tribCharEvent ⟨a, false⟩ s).bus = .idle ∧
        (tribCharEvent ⟨a, false⟩ s).tribRx = .inFrame [a] := by
  have hends := ends_deadlineTaken t { s with tribRx := .inFrame [a] }
  have hflags := heeds_withFlags (tribChar ⟨a, false⟩) s
  rw [tribChar_strangerAddress hbus hrx ha] at hflags
  rw [tribCharEvent_of_on h (tbdir_awaiting hbus)]
  obtain ⟨-, hbegins⟩ | ⟨hkept, htrib⟩ := endEvent_outcome (withFlags (tribChar ⟨a, false⟩) s)
  · exact .inl hbegins
  · exact .inr ⟨hkept.trans (hflags.bus.trans hends.bus),
      htrib.trans (hflags.tribRx.trans hends.tribRx)⟩

theorem strangerAddress_resetHeld {s : State} {t : Transaction} {a : Byte}
    (h : s.resetHeld = false) (hbus : s.bus = .awaiting t .passed) (hrx : s.tribRx = .inFrame [])
    (ha : t.address ≠ a) : (tribCharEvent ⟨a, false⟩ s).resetHeld = false := by
  have hheld := (heeds_withFlags (tribChar ⟨a, false⟩) s).resetHeld
  rw [tribChar_strangerAddress hbus hrx ha,
    (ends_deadlineTaken t { s with tribRx := .inFrame [a] }).resetHeld] at hheld
  rw [tribCharEvent_of_on h (tbdir_awaiting hbus), resetHeld_endEvent]
  exact hheld.trans h

theorem strangerAfterDeadline : Sys2Proof.Claim.StrangerAfterDeadline := by
  intro c a kind body t s u h hf hc hbus hrx ha hu
  rw [exec_deadlineMet_inFrame hrx] at hu
  have hheld := strangerAddress_resetHeld h hbus hrx ha
  have houtcome := strangerAddress_outcome h hbus hrx ha
  rw [exec_of_carried_goodFrame hf hc,
    tribFrameArrives_stranger (strangerAfterPassed_iff.mpr ⟨t, hbus, hrx, ha⟩)]
  rw [Host.Outcome.next.inj hu] at hheld houtcome ⊢
  refine ⟨fun hhunt => ?_, fun hgoesOn => ?_⟩
  · rw [eventIf, if_neg (by rw [tribInFrame_hunt hhunt]; nofun)]
  · obtain ⟨-, hhunt⟩ | ⟨hidle, hframe⟩ := houtcome
    · exact absurd hhunt hgoesOn
    · rw [eventIf_of_running hheld (tribInFrame_eq hframe), goodFrameEnds_stray (.inl hidle)]

/-- Settles O40: a frame that nobody awaits, at once or after the event of its address byte. -/
theorem strayFrame : Obligations.StrayFrame := ⟨stray, strangerAfterDeadline⟩

/-! ### Characters one after another -/

/-- Sound characters of these byte values arrive on the pair. -/
def feedPair (bytes : List Byte) (s : State) : State :=
  (soundChars bytes).foldl (fun acc c => tribCharEvent c acc) s

theorem exec_soundChars (bytes : List Byte) (s : State) :
    exec (.tributaryDamagedFrame (soundChars bytes)) s = .next (feedPair bytes s) := rfl

theorem feedPair_cons (b : Byte) (bytes : List Byte) (s : State) :
    feedPair (b :: bytes) s = feedPair bytes (tribCharEvent ⟨b, false⟩ s) := rfl

theorem feedPair_append (first last : List Byte) (s : State) :
    feedPair (first ++ last) s = feedPair last (feedPair first s) := by
  simp [feedPair, soundChars]

theorem feedPair_of_driven {s : State} (h : tbdir s = true) (bytes : List Byte) :
    feedPair bytes s = s := by
  induction bytes with
  | nil => rfl
  | cons b bytes ih => rw [feedPair_cons, tribCharEvent_of_driven h, ih]

/-- The hub runs, the receiver is on, and the end of an event would change nothing. -/
structure Listens (s : State) : Prop where
  running : s.resetHeld = false
  on : tbdir s = false
  rests : Rests s

/-- A character that only writes the receiver, and the bus without driving the pair. -/
theorem tribCharEvent_of_rests {s : State} (h : Listens s) {c : LineChar} {r : TribRx} {b : Bus}
    (hc : tribChar c s = { s with tribRx := r, bus := b }) :
    tribCharEvent c s = { s with tribRx := r, bus := b } := by
  rw [tribCharEvent_of_on h.running h.on, withFlags_of_ports hc,
    endEvent_of_rests (h.rests.of_bus r b)]

theorem Listens.inFrame {s : State} (h : Listens s) (bytes : List Byte) :
    Listens { s with tribRx := .inFrame bytes } :=
  ⟨h.running, h.on, h.rests.of_bus (.inFrame bytes) s.bus⟩

/-- A byte that only joins those held. -/
theorem tribCharEvent_joins {s : State} (h : Listens s) {bytes : List Byte} {b : Byte}
    (hjoins : ∀ u, tribFrameByte (bytes ++ [b]) u = { u with tribRx := .inFrame (bytes ++ [b]) }) :
    tribCharEvent ⟨b, false⟩ { s with tribRx := .inFrame bytes } =
      { s with tribRx := .inFrame (bytes ++ [b]) } :=
  tribCharEvent_of_rests (h.inFrame bytes) (b := s.bus) ((tribChar_sound rfl b).trans (hjoins _))

theorem tribFrameByte_short {a k len b : Byte} {rest : List Byte}
    (h : (a :: k :: len :: b :: rest).length ≠ len.toNat + 5) (s : State) :
    tribFrameByte (a :: k :: len :: b :: rest) s =
      { s with tribRx := .inFrame (a :: k :: len :: b :: rest) } := if_neg h

/-- Data and CRC bytes short of the last join those held (R91). -/
theorem feedPair_collect {s : State} (h : Listens s) {a k len : Byte} (bytes held : List Byte)
    (hroom : held.length + bytes.length ≤ len.toNat + 1) :
    feedPair bytes { s with tribRx := .inFrame (a :: k :: len :: held) } =
      { s with tribRx := .inFrame (a :: k :: len :: (held ++ bytes)) } := by
  induction bytes generalizing held with
  | nil => rw [List.append_nil]; rfl
  | cons b bytes ih =>
    rw [List.length_cons] at hroom
    have hshort : (a :: k :: len :: (held ++ [b])).length ≠ len.toNat + 5 := by
      simp only [List.length_cons, List.length_append, List.length_nil]; omega
    have hjoins : ∀ u, tribFrameByte (a :: k :: len :: held ++ [b]) u =
        { u with tribRx := .inFrame (a :: k :: len :: held ++ [b]) } := fun u => by
      cases held with
      | nil => exact tribFrameByte_short hshort u
      | cons c held => exact tribFrameByte_short hshort u
    rw [feedPair_cons, tribCharEvent_joins h hjoins]
    have hrest := ih (held ++ [b]) (by simp only [List.length_append, List.length_singleton]; omega)
    simpa using hrest

/-- The flags are told by what the event makes and by the pool and the port records before it. -/
theorem withFlags_congr_of_ports {f g : State → State} {s t : State} (h : f s = g t)
    (hports : s.ports = t.ports := by rfl) (hfree : s.free = t.free := by rfl)
    (hreserve : s.poolReserve = t.poolReserve := by rfl)
    (hlow : s.poolLow = t.poolLow := by rfl) : withFlags f s = withFlags g t := by
  have hport : ∀ p, s.port p = t.port p := fun p => by rw [State.port, State.port, hports]
  have hcongestion : evalCongestion s = evalCongestion t := by
    funext u p
    rw [evalCongestion, evalCongestion, hport]
  have hpool : ∀ u, evalPoolLow s u = evalPoolLow t u := fun u => by
    rw [evalPoolLow, evalPoolLow, hfree, hreserve, hlow]
  rw [withFlags, withFlags, h, hcongestion, hpool]

/-- Kind, LEN, data and CRC after the address bring the end of the good frame (R91, R181). -/
theorem feedPair_afterAddress {s : State} (h : Listens s) {a : Byte} (hrx : s.tribRx = .inFrame [a])
    (kind : Byte) {body : List Byte} (hbody : body.length ≤ Config.maxTribLen) :
    feedPair (kind :: byteOf body.length ::
        (body ++ bytes16 (crc16 (a :: kind :: byteOf body.length :: body)))) s =
      endEvent (goodFrameEnds a kind body s) := by
  generalize hcrc : crc16 (a :: kind :: byteOf body.length :: body) = crc
  generalize hlen : byteOf body.length = len at hcrc
  have hlength : body.length = len.toNat := by
    rw [← hlen, toNat_byteOf (hbody.trans (by decide))]
  have hself : { s with tribRx := .inFrame [a] } = s := by rw [← hrx]
  have hkind : tribCharEvent ⟨kind, false⟩ s = { s with tribRx := .inFrame [a, kind] } := by
    have hjoins := tribCharEvent_joins h (bytes := [a]) (b := kind) fun _ => rfl
    rwa [hself] at hjoins
  have hrange : tribCharEvent ⟨len, false⟩ { s with tribRx := .inFrame [a, kind] } =
      { s with tribRx := .inFrame [a, kind, len] } :=
    tribCharEvent_joins h (bytes := [a, kind]) fun _ =>
      if_neg (by rw [← hlength]; exact Nat.not_lt.mpr hbody)
  have hsplit : body ++ bytes16 crc = (body ++ [hiByte crc]) ++ [loByte crc] := by simp [bytes16]
  have hcollect := feedPair_collect h (a := a) (k := kind) (len := len) (body ++ [hiByte crc]) []
    (by simp [hlength])
  have hlast : tribChar ⟨loByte crc, false⟩
        { s with tribRx := .inFrame (a :: kind :: len :: (body ++ [hiByte crc])) } =
      goodTribFrame a kind body (huntTrib s) := by
    have hall : a :: kind :: len :: (body ++ [hiByte crc]) ++ [loByte crc] =
        a :: kind :: len :: (body ++ [hiByte crc, loByte crc]) := by simp
    rw [tribChar_sound rfl, hall, tribFrameByte_complete hlength, endOfTribFrame_complete hlength,
      word16_hiByte_loByte, if_pos hcrc]
    rfl
  have hflags := withFlags_congr_of_ports (g := fun s => goodTribFrame a kind body (huntTrib s))
    (t := s) hlast
  have hend := h.inFrame (a :: kind :: len :: (body ++ [hiByte crc]))
  rw [feedPair_cons, hkind, feedPair_cons, hrange, hsplit, feedPair_append, hcollect, feedPair_cons,
    List.nil_append, tribCharEvent_of_on hend.running hend.on, hflags]
  rfl

/-! ### Whole frames -/

section
variable (b : Bus) (s : State)

/-! Each outcome of a transaction drops its record, and with it the deadline (R101, R102, R132). -/

theorem badReply_of_bus (t : Transaction) : badReply t { s with bus := b } = badReply t s := by
  unfold badReply
  split <;> rfl

theorem judgeJob_of_bus (k : JobKind) (t : Transaction) (kind : Byte) (data : List Byte) :
    judgeJob k t kind data { s with bus := b } = judgeJob k t kind data s := by
  have hdone : ∀ after, replyDone k t.port after { s with bus := b } =
      replyDone k t.port after s := fun _ => rfl
  have hbusy : replyBusy k t.port { s with bus := b } = replyBusy k t.port s := rfl
  have hdrop : dropTransaction { s with bus := b } = dropTransaction s := rfl
  simp only [judgeJob, badReply_of_bus, hdone, hbusy, hdrop]

theorem judgePoll_of_bus (t : Transaction) (kind : Byte) (data : List Byte) :
    judgePoll t kind data { s with bus := b } = judgePoll t kind data s := by
  have hsilent : pollSilent { s with bus := b } = pollSilent s := rfl
  have hevent : ∀ body, pollEnds (useReservation body { s with bus := b }) =
      pollEnds (useReservation body s) := fun _ => rfl
  have hnone : pollEnds (returnReservation { s with bus := b }) =
      pollEnds (returnReservation s) := rfl
  simp only [judgePoll, hsilent, hevent, hnone]

end

theorem goodTribFrame_awaited {s : State} {t : Transaction} {d : Deadline}
    (h : s.bus = .awaiting t d) (kind : Byte) (body : List Byte) :
    goodTribFrame t.address kind body s =
      match t.kind with
      | .job k => judgeJob k t kind body s
      | .poll => judgePoll t kind body s := by
  rw [goodTribFrame, h]
  exact if_neg (not_not.mpr rfl)

/-- That the awaited address has met the deadline is forgotten as the transaction ends. -/
theorem goodTribFrame_met {s : State} {t : Transaction} {d : Deadline} (h : s.bus = .awaiting t d)
    (kind : Byte) (body : List Byte) :
    goodTribFrame t.address kind body { s with bus := .awaiting t .met } =
      goodTribFrame t.address kind body s := by
  rw [goodTribFrame_awaited (d := .met) rfl, goodTribFrame_awaited h]
  cases t.kind with
  | job k => exact judgeJob_of_bus _ s k t kind body
  | poll => exact judgePoll_of_bus _ s t kind body

theorem length_le_of_goodFrame {c : Instr} {a kind : Byte} {body : List Byte}
    (hf : goodFrameOf c = some (a, kind, body)) (hc : c.carried = true) :
    body.length ≤ Config.maxTribLen := by
  cases c <;> cases hf
  case tributaryOtherFrame => exact of_decide_eq_true hc
  all_goals exact Nat.succ_le_of_lt (of_decide_eq_true hc)


theorem tribEnvelope_eq_cons (a kind : Byte) (body : List Byte) :
    tribEnvelope a kind body = Config.tribStart :: (tribEnvelope a kind body).tail := rfl

theorem tail_tribEnvelope (a kind : Byte) (body : List Byte) :
    (tribEnvelope a kind body).tail =
      a :: kind :: byteOf body.length ::
        (body ++ bytes16 (crc16 (a :: kind :: byteOf body.length :: body))) := by
  rw [tribEnvelope, List.tail_cons, List.cons_append, List.cons_append, List.cons_append]

/-- The characters after the START, where the address byte does not let a passed deadline be taken:
it at most meets the deadline. -/
theorem feedPair_afterStart {s : State} (h : Listens s) (hrx : s.tribRx = .inFrame []) {a : Byte}
    (hstranger : strangerAfterPassed a s = false) (kind : Byte) {body : List Byte}
    (hbody : body.length ≤ Config.maxTribLen) :
    feedPair (tribEnvelope a kind body).tail s = endEvent (goodFrameEnds a kind body s) := by
  have hrest (u : State) (hu : Listens u) (hbytes : u.tribRx = .inFrame [a])
      (hchar : tribCharEvent ⟨a, false⟩ s = u)
      (hends : goodFrameEnds a kind body u = goodFrameEnds a kind body s) :
      feedPair (tribEnvelope a kind body).tail s = endEvent (goodFrameEnds a kind body s) := by
    rw [tail_tribEnvelope, feedPair_cons, hchar, feedPair_afterAddress hu hbytes kind hbody, hends]
  by_cases hawaited : ∃ t d, s.bus = .awaiting t d ∧ a = t.address
  · obtain ⟨t, d, hbus, rfl⟩ := hawaited
    refine hrest { s with tribRx := .inFrame [t.address], bus := .awaiting t .met }
      ⟨h.running, rfl, h.rests.of_bus _ _⟩ rfl (tribCharEvent_of_rests h ?_)
      (withFlags_congr_of_ports (goodTribFrame_met (s := huntTrib s) hbus kind body))
    exact (tribChar_address hrx _).trans
      (addressByte_awaited (s := { s with tribRx := .inFrame [t.address] }) hbus)
  · refine hrest { s with tribRx := .inFrame [a] } (h.inFrame [a]) rfl
      (tribCharEvent_of_rests h (b := s.bus) ?_) (withFlags_congr_of_ports rfl)
    refine (tribChar_address hrx a).trans (addressByte_other fun t d hbus => ?_)
    have ha : a ≠ t.address := fun ha => hawaited ⟨t, d, hbus, ha⟩
    refine ⟨ha, ?_⟩
    rintro rfl
    rw [strangerAfterPassed_iff.mpr ⟨t, show s.bus = _ from hbus, hrx, ha.symm⟩] at hstranger
    cases hstranger

theorem listens_of_settled {s : State} (h : Settled s) (hon : tbdir s = false) : Listens s :=
  ⟨h.1, hon, ((settled_iff s).mp h).2⟩

theorem restOfFrame : Sys2Proof.Claim.RestOfFrame := by
  intro c a kind body s hf hc h hrx
  have hbody := length_le_of_goodFrame hf hc
  rw [exec_soundChars]
  cases hon : tbdir s with
  | true =>
    have hstranger : strangerAfterPassed a s = false := not_strangerAfterPassed fun t hbus => by
      rw [tbdir_awaiting hbus] at hon; cases hon
    rw [feedPair_of_driven hon, exec_of_carried_goodFrame hf hc,
      tribFrameArrives_at_once hstranger, eventIf, if_neg (by rw [receiverOn, hon]; nofun)]
  | false =>
    cases hstranger : strangerAfterPassed a s with
    | false =>
      rw [exec_of_heard_goodFrame hf hc h.1 hon hstranger,
        feedPair_afterStart (listens_of_settled h hon) hrx hstranger kind hbody]
    | true =>
      obtain ⟨t, hbus, -, ha⟩ := strangerAfterPassed_iff.mp hstranger
      have hheld := strangerAddress_resetHeld h.1 hbus hrx ha
      have hrests : Rests (tribCharEvent ⟨a, false⟩ s) := by
        rw [tribCharEvent_of_on h.1 hon]; exact rests_endEvent _
      rw [exec_of_carried_goodFrame hf hc, tribFrameArrives_stranger hstranger, tail_tribEnvelope,
        feedPair_cons]
      obtain ⟨⟨x, hsending⟩, hhunt⟩ | ⟨hidle, hframe⟩ := strangerAddress_outcome h.1 hbus hrx ha
      · rw [feedPair_of_driven (by rw [tbdir, hsending]), eventIf,
          if_neg (by rw [tribInFrame_hunt hhunt]; nofun)]
      · have hlistens : Listens (tribCharEvent ⟨a, false⟩ s) :=
          ⟨hheld, by rw [tbdir, hidle], hrests⟩
        rw [eventIf_of_running hheld (tribInFrame_eq hframe),
          feedPair_afterAddress hlistens hframe kind hbody]

theorem wholeFrame : Sys2Proof.Claim.WholeFrame := by
  intro c a kind body s hf hc h hrx hpassed
  have hstranger : strangerAfterPassed a s = false :=
    not_strangerAfterPassed fun t hbus => absurd hbus (hpassed t)
  rw [exec_soundChars]
  cases hon : tbdir s with
  | true =>
    rw [feedPair_of_driven hon, exec_of_carried_goodFrame hf hc,
      tribFrameArrives_at_once hstranger, eventIf, if_neg (by rw [receiverOn, hon]; nofun)]
  | false =>
    have hlistens := listens_of_settled h hon
    have hstart : tribCharEvent ⟨Config.tribStart, false⟩ s = { s with tribRx := .inFrame [] } :=
      tribCharEvent_of_rests hlistens (b := s.bus) (tribChar_start hrx)
    have hstranger' : strangerAfterPassed a { s with tribRx := .inFrame [] } = false :=
      not_strangerAfterPassed fun t hbus => absurd hbus (hpassed t)
    have hrest := feedPair_afterStart (hlistens.inFrame []) rfl hstranger' kind
      (length_le_of_goodFrame hf hc)
    have hends : goodFrameEnds a kind body { s with tribRx := .inFrame [] } =
        goodFrameEnds a kind body s := withFlags_congr_of_ports rfl
    rw [exec_of_heard_goodFrame hf hc h.1 hon hstranger, tribEnvelope_eq_cons, feedPair_cons,
      hstart, hrest, hends]

/-- Settles O42: the characters up to the last only move the receiver on, and the last one ends the
frame as its command does. -/
theorem charactersMakeTheReply : Obligations.CharactersMakeTheReply := ⟨wholeFrame, restOfFrame⟩

end Sys2Proof.Machine
end

section
/-! PROOF. The outcomes of a CALL or FETCH (R102 to R110): replies DONE, BUSY and REFUSED, and the
failed attempt, each from the job at the head of its port. -/

namespace Sys2Proof.Machine

/-! ### Good frames from the awaited device -/

/-- A good frame from the awaited device, as its command. -/
theorem exec_of_awaited_goodFrame {c : Instr} {kind : Byte} {body : List Byte} {s : State}
    {t : Transaction} {d : Deadline} (hf : goodFrameOf c = some (t.address, kind, body))
    (hc : c.carried = true) (h : s.resetHeld = false) (hbus : s.bus = .awaiting t d) :
    exec c s = .next (endEvent (goodFrameEnds t.address kind body s)) := by
  refine exec_of_heard_goodFrame hf hc h (tbdir_awaiting hbus) ?_
  refine not_strangerAfterPassed fun t' hbus' _ => ?_
  cases hbus.symm.trans hbus'
  rfl

/-- A good frame from the awaited device answers the job (R102). -/
theorem exec_of_jobAnswer {c : Instr} {kind : Byte} {body : List Byte} {s t : State} {k : JobKind}
    {p : PortNo} {a rt : Byte} {d : Deadline} (hf : goodFrameOf c = some (a, kind, body))
    (hc : c.carried = true) (h : s.resetHeld = false)
    (hbus : s.bus = .awaiting ⟨.job k, p, a, rt⟩ d)
    (hanswer : judgeJob k ⟨.job k, p, a, rt⟩ kind body (huntTrib s) = t) :
    exec c s = .next (endEvent (withFlags (fun _ => t) s)) := by
  rw [exec_of_awaited_goodFrame (t := ⟨.job k, p, a, rt⟩) hf hc h hbus]
  refine congrArg (Host.Outcome.next ∘ endEvent) (withFlags_congr ?_)
  rw [← hanswer]
  exact goodTribFrame_awaited (s := huntTrib s) hbus kind body

section
variable (k : JobKind) (t : Transaction) (s : State)

theorem judgeJob_done {after : List Byte} (h : after.length ≤ 24) :
    judgeJob k t replyKind (0x00#8 :: after) s = replyDone k t.port after s := by
  simp [judgeJob, h]

theorem judgeJob_busy : judgeJob k t replyKind [0x01#8] s = replyBusy k t.port s := by
  simp [judgeJob]

theorem judgeJob_refused (code : Byte) :
    judgeJob k t replyKind [0x02#8, code] s =
      jobFails k t.port (.refused code) (dropTransaction s) := by
  simp [judgeJob]

/-- A good frame that is no valid reply is a bad one (R102). -/
theorem judgeJob_bad {kind : Byte} {data : List Byte} (h : ¬ validReply kind data) :
    judgeJob k t kind data s = badReply t s := by
  unfold judgeJob
  split
  case isTrue => rfl
  case isFalse hkind =>
    have hreply : kind = replyKind := not_not.mp hkind
    split
    case h_1 => rfl
    case h_2 status after =>
      split_ifs with hdone hbusy hrefused
      · exact absurd ⟨hreply, .inl ⟨after, by rw [hdone.1], hdone.2⟩⟩ h
      · exact absurd ⟨hreply, .inr (.inl (by rw [hbusy.1, hbusy.2]))⟩ h
      · split
        case h_1 code => exact absurd ⟨hreply, .inr (.inr ⟨code, by rw [hrefused]⟩)⟩ h
        case h_2 => rfl
      · rfl

end

/-! ### The job at the head -/

section
variable {s : State} {p : PortNo} {it : Item} {rest : List Item}

theorem headStamp_eq (h : (s.port p).queue = it :: rest) : headStamp s p = it.stamp := by
  rw [headStamp, headItem, h]; rfl

theorem headCounters_eq (h : (s.port p).queue = it :: rest) : headCounters s p = it.counters := by
  rw [headCounters, headItem, h]; rfl

end

/-- The failure of a job with its FAULT report, from the job at the head (R108). -/
theorem jobFails_eq {s : State} {p : PortNo} {kind : JobKind} {st : Count} {data : List Byte}
    {x y : Nat} {rest : List Item} (h : (s.port p).queue = .job kind st data x y :: rest)
    (k : JobKind) (cause : FaultCause) :
    jobFails k p cause s = jobFailsPort p cause (faultReported p st k cause x s) := by
  have hclosing : isClosing s p =
      match (s.port p).state with
      | .closing _ => true
      | _ => false := rfl
  have hhead : ((bump .jobFailed s).port p).queue = .job kind st data x y :: rest := h
  rw [jobFails, headStamp_eq h, headCounters_eq h, hclosing]
  rfl

/-! ### DONE -/

theorem replyDone_fetch {s : State} {p : PortNo} {it : Item} {rest : List Item}
    (h : (s.port p).queue = it :: rest) (after : List Byte) :
    replyDone .fetch p after s =
      jobFinishes p (useReservation (.reply p it.stamp after) (dropTransaction s)) := by
  rw [← headStamp_eq h]; rfl

theorem replyDone_call (p : PortNo) (after : List Byte) (s : State) :
    replyDone .call p after s = jobFinishes p (returnReservation (dropTransaction s)) := rfl

/-- Settles O36: the reservation becomes the report or returns, and the head settles. -/
theorem doneReply : Obligations.DoneReply := by
  intro k p a rt d it rest after s h hbus hk hqueue hafter u hfetch hcall
  have hcarried : (Instr.replyDone a after).carried = true :=
    decide_eq_true (Nat.lt_succ_of_le hafter)
  refine exec_of_jobAnswer rfl hcarried h hbus ?_
  rw [judgeJob_done _ _ _ hafter]
  cases k with
  | send => exact absurd rfl hk
  | fetch =>
    rw [hfetch rfl, replyDone_fetch (s := huntTrib s) hqueue, jobFinishes,
      settleHead_eq (p := p) (s := useReservation _ (dropTransaction (huntTrib s))) hqueue]
    rfl
  | call =>
    rw [hcall rfl, replyDone_call, jobFinishes,
      settleHead_eq (p := p) (s := returnReservation (dropTransaction (huntTrib s))) hqueue]
    rfl

/-! ### BUSY and REFUSED -/

/-- A job that waits stays, unless its port is CLOSING in DISCARD mode (R76, R110). -/
theorem jobWaits_eq_self {p : PortNo} {s : State}
    (h : ∀ c, (s.port p).state = .closing c → c.mode = .finish) : jobWaits p s = s :=
  (waitUnderPortState p s).1 h

section
variable {k : JobKind} {s : State} {p : PortNo} {kind : JobKind} {st : Count} {data : List Byte}
  {x y : Nat} {rest : List Item}

/-- Below the limit the busy count rises and the reservation returns; the busy wait starts, unless
the port is CLOSING in DISCARD mode (R76, R104, R105). -/
theorem replyBusy_below (hqueue : (s.port p).queue = .job kind st data x y :: rest)
    (hlimit : y < (s.port p).params.busyLimit.toNat) {v : State}
    (hv : v = returnReservation
      (modPort p (fun z => { z with queue := .job kind st data x (y + 1) :: rest })
        (bump .busBusy (dropTransaction s)))) :
    ((∀ c, (s.port p).state = .closing c → c.mode = .finish) →
      replyBusy k p s =
        jobWaits p (modPort p (fun z => { z with busyWait := some z.params.busyWait }) v)) ∧
    ((∃ c, (s.port p).state = .closing c ∧ c.mode = .discard) →
      replyBusy k p s = jobWaits p v) := by
  have hcount : setHeadCounters p (fun a b => (a, b + 1)) (bump .busBusy (dropTransaction s)) =
      modPort p (fun z => { z with queue := .job kind st data x (y + 1) :: rest })
        (bump .busBusy (dropTransaction s)) :=
    setHeadCounters_eq (s := bump .busBusy (dropTransaction s)) hqueue fun a b => (a, b + 1)
  have hbelow : (headCounters (bump .busBusy (dropTransaction s)) p).2 <
      ((bump .busBusy (dropTransaction s)).port p).params.busyLimit.toNat := by
    rw [headCounters_eq (s := bump .busBusy (dropTransaction s)) hqueue]
    exact hlimit
  have hstate : (v.port p).state = (s.port p).state := by
    rw [hv, port_returnReservation, port_modPort, if_pos rfl]; rfl
  unfold replyBusy
  dsimp only
  rw [if_pos hbelow, hcount, ← hv]
  refine ⟨fun hfinish => ?_, fun ⟨c, hclosing, hdiscard⟩ => ?_⟩
  · split
    case h_1 hclosing => cases hfinish _ (hstate.symm.trans hclosing)
    case h_2 => rfl
  · obtain ⟨mode, stamp, count, last⟩ := c
    cases hdiscard
    rw [hstate, hclosing]

theorem modPort_returnReservation (p : PortNo) (f : Port → Port) (s : State) :
    modPort p f (returnReservation s) = returnReservation (modPort p f s) := rfl

theorem replyBusy_waits (hqueue : (s.port p).queue = .job kind st data x y :: rest)
    (hlimit : y < (s.port p).params.busyLimit.toNat)
    (hfinish : ∀ c, (s.port p).state = .closing c → c.mode = .finish) :
    replyBusy k p s =
      returnReservation (modPort p (fun z => { z with
          queue := .job kind st data x (y + 1) :: rest, busyWait := some z.params.busyWait })
        (bump .busBusy (dropTransaction s))) := by
  rw [(replyBusy_below hqueue hlimit rfl).1 hfinish, modPort_returnReservation, modPort_modPort]
  refine jobWaits_eq_self fun c => ?_
  rw [port_returnReservation, port_modPort, if_pos rfl]
  exact hfinish c

/-- At the limit the job fails, with its counters unraised (R104). -/
theorem replyBusy_fails (hqueue : (s.port p).queue = .job kind st data x y :: rest)
    (hlimit : (s.port p).params.busyLimit.toNat ≤ y) :
    replyBusy k p s =
      jobFailsPort p .busyLimit
        (faultReported p st k .busyLimit x (bump .busBusy (dropTransaction s))) := by
  have hreached : ¬ (headCounters (bump .busBusy (dropTransaction s)) p).2 <
      ((bump .busBusy (dropTransaction s)).port p).params.busyLimit.toNat := by
    rw [headCounters_eq (s := bump .busBusy (dropTransaction s)) hqueue]
    exact Nat.not_lt.mpr hlimit
  unfold replyBusy
  dsimp only
  rw [if_neg hreached]
  exact jobFails_eq (s := bump .busBusy (dropTransaction s)) hqueue k .busyLimit

end

theorem busyReply : Sys2Proof.Claim.BusyReply := by
  intro k p a rt d kind st data x y rest s h hbus hqueue u hu
  have hexec {t : State} (ht : replyBusy k p (huntTrib s) = t) :
      exec (.replyBusy a []) s = .next (endEvent (withFlags (fun _ => t) s)) :=
    exec_of_jobAnswer rfl rfl h hbus ((judgeJob_busy k _ _).trans ht)
  have hdrop : bump .busBusy (dropTransaction (huntTrib s)) = u := hu.symm
  refine ⟨fun hlimit hfinish => ?_, fun hlimit hdiscard => ?_, fun hlimit => ?_⟩
  · have hwaits := replyBusy_waits (k := k) (s := huntTrib s) hqueue hlimit hfinish
    rw [hdrop] at hwaits
    rw [hexec hwaits, withFlags_of_occupancies_eq]
    · rw [hu]; rfl
    · intro q
      rw [port_returnReservation, port_modPort, hu]
      split
      · subst q; rw [hqueue]; rfl
      · rfl
    · rw [hu]; rfl
    · rw [hu]; rfl
  · have hdiscards := (replyBusy_below (k := k) (s := huntTrib s) hqueue hlimit rfl).2 hdiscard
    rw [hexec hdiscards, hu]
    rfl
  · rw [hexec (replyBusy_fails (s := huntTrib s) hqueue hlimit), hdrop]

theorem refusedReply : Sys2Proof.Claim.RefusedReply := by
  intro k p a rt code d kind st data x y rest s h hbus hqueue
  exact exec_of_jobAnswer rfl rfl h hbus ((judgeJob_refused k _ _ code).trans
    (jobFails_eq (s := dropTransaction (huntTrib s)) hqueue k (.refused code)))

/-- Settles O37: BUSY by the limit and the state of the port, REFUSED by the failure of the job. -/
theorem busyAndRefusedReplies : Obligations.BusyAndRefusedReplies := ⟨busyReply, refusedReply⟩

/-! ### Failed attempts -/

/-- The attempts rise; then the job fails, or waits with its reservation returned (R107, R110). -/
theorem attemptFails_eq {s : State} {p : PortNo} {kind : JobKind} {st : Count} {data : List Byte}
    {x y : Nat} {rest : List Item} (hqueue : (s.port p).queue = .job kind st data x y :: rest)
    (k : JobKind) (cause : FaultCause) {u : State}
    (hu : u = modPort p (fun z => { z with queue := .job kind st data (x + 1) y :: rest })
      (dropTransaction s)) :
    attemptFails k p cause s =
      if (s.port p).params.retries.toNat < x + 1 then
        jobFailsPort p cause (faultReported p st k cause (x + 1) u)
      else jobWaits p (returnReservation u) := by
  have hcount : setHeadCounters p (fun a b => (a + 1, b)) (dropTransaction s) = u := by
    rw [hu]
    exact setHeadCounters_eq (s := dropTransaction s) hqueue fun a b => (a + 1, b)
  have hport : u.port p = { s.port p with queue := .job kind st data (x + 1) y :: rest } := by
    rw [hu, port_modPort, if_pos rfl]; rfl
  have hhead : (u.port p).queue = .job kind st data (x + 1) y :: rest := by rw [hport]
  unfold attemptFails
  dsimp only
  rw [hcount, headCounters_eq hhead, hport, jobFails_eq hhead]
  rfl

/-- The ways for an attempt to fail (R101, R102): the deadline expires with no START held alone, a
good frame from the awaited device is no valid reply, or the character gap ends a frame from it. Each
has the tally it counts, its cause, and the receiver it leaves. -/
def AttemptFailsBy (c : Instr) (s : State) (a : Byte) (d : Deadline) (tally : Tally)
    (cause : FaultCause) (rx : TribRx) : Prop :=
  (c = .deadlineExpiry ∧ d = .running ∧ s.tribRx ≠ .inFrame [] ∧ rx = s.tribRx ∧
      tally = .busTimeout ∧ cause = .noReply) ∨
    (∃ code body, goodFrameOf c = some (a, code, body) ∧ c.carried = true ∧
      ¬ validReply code body ∧ rx = .hunt ∧ tally = .busBadReply ∧ cause = .badReply) ∨
    (∃ got, c = .tributaryCharacterGapExpiry ∧ s.tribRx = .inFrame (a :: got) ∧ rx = .hunt ∧
      tally = .busBadReply ∧ cause = .badReply)

/-- Each way to fail is the failed attempt, with its tally counted (R107). -/
theorem exec_of_failedAttempt {c : Instr} {s v : State} {k : JobKind} {p : PortNo} {a rt : Byte}
    {d : Deadline} {tally : Tally} {cause : FaultCause} {rx : TribRx} (h : s.resetHeld = false)
    (hbus : s.bus = .awaiting ⟨.job k, p, a, rt⟩ d)
    (hway : AttemptFailsBy c s a d tally cause rx)
    (hv : attemptFails k p cause (bump tally { s with tribRx := rx }) = v) :
    exec c s = .next (endEvent (withFlags (fun _ => v) s)) := by
  obtain ⟨rfl, rfl, hrx, rfl, rfl, rfl⟩ | ⟨code, body, hf, hc, hbad, rfl, rfl, rfl⟩ |
    ⟨got, rfl, hrx, rfl, rfl, rfl⟩ := hway
  · rw [exec_deadlineExpiry h hbus]
    exact congrArg (Host.Outcome.next ∘ endEvent)
      (withFlags_congr ((deadlineExpires_taken hbus hrx).trans hv))
  · exact exec_of_jobAnswer hf hc h hbus ((judgeJob_bad k _ (huntTrib s) hbad).trans hv)
  · rw [exec_gapExpiry h hrx]
    refine congrArg (Host.Outcome.next ∘ endEvent) (withFlags_congr ?_)
    exact (tribGapExpires_eq hrx).trans
      ((damagedTribFrame_awaited (s := huntTrib s) hbus).trans hv)

/-- Settles O38: each way to fail raises the attempts, and the retries decide. -/
theorem failedAttempt : Obligations.FailedAttempt := by
  intro k p a rt d kind st data x y rest s h hbus hqueue c tally cause rx hway u hu
  have hattempt := attemptFails_eq (s := bump tally { s with tribRx := rx }) hqueue k cause hu
  refine ⟨fun hretries => ?_, fun hretries => ?_⟩
  · rw [exec_of_failedAttempt h hbus hway (hattempt.trans (if_neg (Nat.not_lt.mpr hretries))), hu]
    rfl
  · rw [exec_of_failedAttempt h hbus hway (hattempt.trans (if_pos hretries))]

end Sys2Proof.Machine
end

section
/-! PROOF. The fence table (chapter 6): what arrival and the release of an entry leave field by
field, and the releases of an event, taken apart round by round (R115 to R118). -/

namespace Sys2Proof.Machine

-- One proof is elaborated at a time: many at once would each hold a thread's stack.
set_option Elab.async false

/-! ### Port sets read by port -/

theorem getLsbD_one_shiftLeft (p q : PortNo) :
    (1#16 <<< p.val).getLsbD q.val = decide (q = p) := by
  revert p q; decide

theorem getLsbD_portSetOf (f : PortNo → Bool) (q : PortNo) :
    (portSetOf f).getLsbD q.val = f q := by
  have hfold : ∀ (l : List PortNo) (m : PortSet),
      (l.foldl (fun m p => if f p then m ||| (1#16 <<< p.val) else m) m).getLsbD q.val =
        (m.getLsbD q.val || (decide (q ∈ l) && f q)) := by
    intro l
    induction l with
    | nil => simp
    | cons p l ih =>
      intro m
      rw [List.foldl_cons, ih]
      by_cases hq : q = p
      · subst hq
        split
        case isTrue hf => rw [BitVec.getLsbD_or, getLsbD_one_shiftLeft]; simp [hf]
        case isFalse hf => simp [hf]
      · split
        · rw [BitVec.getLsbD_or, getLsbD_one_shiftLeft]; simp [hq]
        · simp [hq]
  rw [portSetOf, hfold]
  simp [mem_allPorts]

theorem portSet_eq_iff {m n : PortSet} :
    m = n ↔ ∀ p : PortNo, m.getLsbD p.val = n.getLsbD p.val :=
  ⟨fun h _ => by rw [h], fun h => BitVec.eq_of_getLsbD_eq fun i hi => h ⟨i, hi⟩⟩

theorem members_ne_nil {m : PortSet} (h : m ≠ 0) : members m ≠ [] := by
  intro hnil
  refine h (portSet_eq_iff.mpr fun p => ?_)
  have hp : p ∉ members m := by rw [hnil]; exact List.not_mem_nil
  simpa [mem_members] using hp

/-! ### Arrival -/

theorem headIsMarker_iff (s : State) (i : FenceNo) (p : PortNo) :
    headIsMarker s i p = true ↔ ∃ stamp rest, (s.port p).queue = .marker stamp i :: rest := by
  unfold headIsMarker
  cases (s.port p).queue with
  | nil => simp
  | cons it rest => simp [isMarkerOf_iff]

/-- What arrival makes of entry `i`: each member whose head is the entry's marker joins (R115). -/
def arrivedEntry (s : State) (i : FenceNo) : FenceEntry → FenceEntry
  | .free => .free
  | .gathering g =>
      .gathering
        { g with
          arrived :=
            g.arrived ||| portSetOf fun p => g.members.getLsbD p.val && headIsMarker s i p }

theorem setFence_fence (i : FenceNo) (s : State) : setFence i (s.fence i) s = s := by
  simp [setFence, State.fence]

theorem arriveAt_eq (s : State) (i : FenceNo) :
    arriveAt s i = setFence i (arrivedEntry s i (s.fence i)) s := by
  unfold arriveAt
  split
  case h_1 h => rw [h, arrivedEntry, ← h, setFence_fence]
  case h_2 g h => rw [h]; rfl

theorem foldl_arriveAt_frame (l : List FenceNo) (s : State) :
    l.foldl arriveAt s = { s with fences := (l.foldl arriveAt s).fences } := by
  induction l generalizing s with
  | nil => rfl
  | cons i l ih => rw [List.foldl_cons, ih, arriveAt_eq]; rfl

/-- Arrival writes the fence table alone. -/
theorem arrive_frame (s : State) : arrive s = { s with fences := (arrive s).fences } :=
  foldl_arriveAt_frame allFences s

@[simp] theorem port_arrive (s : State) (p : PortNo) : (arrive s).port p = s.port p := by
  rw [arrive_frame]; rfl

@[simp] theorem bus_arrive (s : State) : (arrive s).bus = s.bus := by rw [arrive_frame]

@[simp] theorem headIsMarker_arrive (s : State) (i : FenceNo) (p : PortNo) :
    headIsMarker (arrive s) i p = headIsMarker s i p := headIsMarker_congr (port_arrive s p) i

theorem fence_foldl_arriveAt {l : List FenceNo} (hl : l.Nodup) (s : State) (j : FenceNo) :
    (l.foldl arriveAt s).fence j = if j ∈ l then arrivedEntry s j (s.fence j) else s.fence j := by
  induction l generalizing s with
  | nil => rfl
  | cons i l ih =>
    obtain ⟨hi, hl⟩ := List.nodup_cons.mp hl
    rw [List.foldl_cons, ih hl, arriveAt_eq, fence_setFence]
    by_cases hj : j = i
    · subst hj; simp [hi]
    · simp only [List.mem_cons, hj, false_or, if_false]; rfl

/-- Arrival is evaluated at every entry (R115). -/
theorem fence_arrive (s : State) (i : FenceNo) :
    (arrive s).fence i = arrivedEntry s i (s.fence i) :=
  (fence_foldl_arriveAt (by decide) s i).trans (if_pos (mem_allFences i))

theorem fence_arrive_free {s : State} {i : FenceNo} (h : s.fence i = .free) :
    (arrive s).fence i = .free := by rw [fence_arrive, h]; rfl

theorem fence_arrive_gathering {s : State} {i : FenceNo} {g : Gathering}
    (h : s.fence i = .gathering g) :
    ∃ a : PortSet, (arrive s).fence i = .gathering { g with arrived := a } ∧
      ∀ p : PortNo, a.getLsbD p.val =
        (g.arrived.getLsbD p.val || (g.members.getLsbD p.val && headIsMarker s i p)) := by
  refine ⟨_, by rw [fence_arrive, h]; rfl, fun p => ?_⟩
  rw [BitVec.getLsbD_or, getLsbD_portSetOf]

/-- A GATHERING entry was GATHERING before arrival, with the members that joined not yet in its
arrived set. -/
theorem gathering_of_arrive {s : State} {i : FenceNo} {g : Gathering}
    (h : (arrive s).fence i = .gathering g) :
    ∃ a : PortSet, s.fence i = .gathering { g with arrived := a } ∧
      ∀ p : PortNo, g.arrived.getLsbD p.val =
        (a.getLsbD p.val || (g.members.getLsbD p.val && headIsMarker s i p)) := by
  cases hs : s.fence i with
  | free => rw [fence_arrive_free hs] at h; cases h
  | gathering g₀ =>
    obtain ⟨a, ha, hbits⟩ := fence_arrive_gathering hs
    obtain rfl := FenceEntry.gathering.inj (ha.symm.trans h)
    exact ⟨g₀.arrived, rfl, hbits⟩

/-- A state that differs in the fence table alone, and there in no entry, is the same state. -/
theorem state_eq_of_fences {s t : State} (hframe : t = { s with fences := t.fences })
    (h : ∀ i, t.fence i = s.fence i) : t = s := by
  have hfences : t.fences = s.fences := Vector.ext fun i hi => h ⟨i, hi⟩
  rw [hframe, hfences]

/-- Where each member whose head is the marker has arrived, arrival changes nothing. -/
theorem arrive_eq_self {s : State}
    (h : ∀ i g, s.fence i = .gathering g → ∀ p : PortNo, g.members.getLsbD p.val = true →
      headIsMarker s i p = true → g.arrived.getLsbD p.val = true) : arrive s = s := by
  refine state_eq_of_fences (arrive_frame s) fun i => ?_
  cases hs : s.fence i with
  | free => exact fence_arrive_free hs
  | gathering g =>
    obtain ⟨a, ha, hbits⟩ := fence_arrive_gathering hs
    have harrived : a = g.arrived := portSet_eq_iff.mpr fun p => by
      rw [hbits, Bool.or_eq_left_iff_imp, Bool.and_eq_true]
      exact fun ⟨hmember, hhead⟩ => h i g hs p hmember hhead
    rw [ha, harrived]

theorem arrived_of_arrive {s : State} {i : FenceNo} {g : Gathering}
    (h : (arrive s).fence i = .gathering g) {p : PortNo} (hmember : g.members.getLsbD p.val = true)
    (hhead : headIsMarker s i p = true) : g.arrived.getLsbD p.val = true := by
  obtain ⟨a, -, hbits⟩ := gathering_of_arrive h
  rw [hbits, hmember, hhead]
  exact Bool.or_true _

theorem arrive_arrive (s : State) : arrive (arrive s) = arrive s :=
  arrive_eq_self fun i _ hg p hmember hhead =>
    arrived_of_arrive hg hmember (headIsMarker_arrive s i p ▸ hhead)

theorem arrival : Sys2Proof.Claim.Arrival := fun s =>
  ⟨headIsMarker_iff s, arrive_frame s, fun _ => fence_arrive_free,
    fun _ _ => fence_arrive_gathering⟩

/-! ### The release of one entry -/

/-- The record of a member once the fence is released: the marker has left the head, and the stamp
is settled (R117). -/
def releasedPort (i : FenceNo) (stamp : Count) (x : Port) : Port :=
  { x with
    queue := if x.queue.head?.any (Item.isMarkerOf i) then x.queue.tail else x.queue
    settled := stamp
    dirty := true }

theorem releaseMember_eq (i : FenceNo) (stamp : Count) (s : State) (p : PortNo) :
    releaseMember i stamp s p =
      { modPort p (releasedPort i stamp) s with
        free := s.free + if headIsMarker s i p then 1 else 0
        progressPending := true
        decisionDue := s.decisionDue || headIsMarker s i p } := by
  unfold releaseMember
  cases hmark : headIsMarker s i p with
  | false =>
    have hqueue : releasedPort i stamp (s.port p) =
        { s.port p with settled := stamp, dirty := true } := by
      rw [releasedPort, ← headIsMarker_eq, hmark]; rfl
    rw [Bool.or_false, modPort, hqueue]; rfl
  | true =>
    obtain ⟨st, rest, hqueue⟩ := (headIsMarker_iff s i p).mp hmark
    have hport : releasedPort i stamp (s.port p) =
        { s.port p with queue := rest, settled := stamp, dirty := true } := by
      rw [releasedPort, ← headIsMarker_eq, hmark, if_pos rfl, hqueue]; rfl
    rw [if_pos rfl, writeSettled, modPort_removeHead hqueue, Bool.or_true, modPort, modPort, hport]
    rfl

theorem port_releaseMember (i : FenceNo) (stamp : Count) (s : State) (p q : PortNo) :
    (releaseMember i stamp s p).port q =
      if q = p then releasedPort i stamp (s.port p) else s.port q := by
  rw [releaseMember_eq]; exact port_modPort _ _ _ _

theorem port_foldl_releaseMember (i : FenceNo) (stamp : Count) {l : List PortNo} (hl : l.Nodup)
    (s : State) (q : PortNo) :
    (l.foldl (releaseMember i stamp) s).port q =
      if q ∈ l then releasedPort i stamp (s.port q) else s.port q := by
  induction l generalizing s with
  | nil => rfl
  | cons p l ih =>
    obtain ⟨hp, hl⟩ := List.nodup_cons.mp hl
    rw [List.foldl_cons, ih hl, port_releaseMember]
    by_cases hq : q = p
    · subst hq; simp [hp]
    · simp [hq]

theorem port_releaseMembers (i : FenceNo) (stamp : Count) (m : PortSet) (s : State) (p : PortNo) :
    ((members m).foldl (releaseMember i stamp) s).port p =
      if m.getLsbD p.val = true then releasedPort i stamp (s.port p) else s.port p := by
  simp only [port_foldl_releaseMember i stamp (nodup_members m), mem_members]

/-- Each marker at a head returns its slot, and its removal calls the arbiter (R117). -/
theorem foldl_releaseMember_frame (i : FenceNo) (stamp : Count) {l : List PortNo} (hl : l.Nodup)
    (s : State) :
    l.foldl (releaseMember i stamp) s =
      { s with
        ports := (l.foldl (releaseMember i stamp) s).ports
        free := s.free + l.countP (headIsMarker s i)
        progressPending := s.progressPending || !l.isEmpty
        decisionDue := s.decisionDue || l.any (headIsMarker s i) } := by
  induction l generalizing s with
  | nil => simp
  | cons p l ih =>
    obtain ⟨hp, hl⟩ := List.nodup_cons.mp hl
    have hhead : ∀ q ∈ l, headIsMarker (releaseMember i stamp s p) i q = headIsMarker s i q :=
      fun q hq => headIsMarker_congr
        (by rw [port_releaseMember, if_neg (ne_of_mem_of_not_mem hq hp)]) i
    rw [List.foldl_cons, ih hl, any_congr_of_mem hhead,
      List.countP_congr fun q hq => by rw [hhead q hq], List.countP_cons, List.any_cons]
    rw [releaseMember_eq]
    simp [Bool.or_assoc, Nat.add_comm, Nat.add_left_comm]

theorem fence_releaseFence (i : FenceNo) (s : State) (j : FenceNo) :
    (releaseFence i s).fence j = if j = i then .free else s.fence j := by
  unfold releaseFence
  split
  case h_1 h =>
    split
    case isTrue hj => rw [hj, h]
    case isFalse => rfl
  case h_2 g h =>
    rw [fence_setFence, foldl_releaseMember_frame i g.stamp (nodup_members g.members)]; rfl

theorem fenceRelease : Sys2Proof.Claim.FenceRelease := by
  intro i g s hg hheads hne
  have hall : ∀ p ∈ members g.members, headIsMarker s i p = true := fun p hp =>
    hheads p ((mem_members _ p).mp hp)
  obtain ⟨q, hq⟩ := List.exists_mem_of_ne_nil _ (members_ne_nil hne)
  have hcount : (members g.members).countP (headIsMarker s i) = (members g.members).length :=
    List.countP_eq_length.mpr hall
  have hany : (members g.members).any (headIsMarker s i) = true :=
    List.any_eq_true.mpr ⟨q, hq, hall q hq⟩
  have hnonempty : (members g.members).isEmpty = false :=
    List.isEmpty_eq_false_iff.mpr (members_ne_nil hne)
  have hframe := foldl_releaseMember_frame i g.stamp (nodup_members g.members) s
  rw [hcount, hany, hnonempty, Bool.not_false, Bool.or_true, Bool.or_true] at hframe
  have hrelease : releaseFence i s = setFence i .free
      (useReservation (.fence g.stamp g.members .released)
        ((members g.members).foldl (releaseMember i g.stamp) s)) := by
    rw [releaseFence, hg]
  rw [hrelease]
  refine ⟨_, rfl, fun p => ?_, ?_⟩
  · rw [port_setFence, port_useReservation, port_releaseMembers]
    split
    case isTrue hp => rw [releasedPort, ← headIsMarker_eq, hheads p hp, if_pos rfl]
    case isFalse => rfl
  · generalize (members g.members).foldl (releaseMember i g.stamp) s = v at hframe ⊢
    rw [hframe]; rfl

/-! ### The releases of an event -/

theorem fenceComplete_iff {s : State} {i : FenceNo} :
    fenceComplete s i = true ↔ ∃ g, s.fence i = .gathering g ∧ g.arrived = g.members := by
  unfold fenceComplete
  split
  case h_1 h => simp [h]
  case h_2 g h => simp [h]

theorem not_fenceComplete_iff {s : State} {i : FenceNo} :
    fenceComplete s i = false ↔ ∀ g, s.fence i = .gathering g → g.arrived ≠ g.members := by
  rw [← Bool.not_eq_true, fenceComplete_iff]
  push Not
  rfl

/-- A search of the fence table finds the lowest entry (R116, R118). -/
theorem find?_allFences {f : FenceNo → Bool} {i : FenceNo} :
    allFences.find? f = some i ↔ f i = true ∧ ∀ j < i, f j = false := by
  have hfences : allFences = List.finRange 4 := by decide
  rw [hfences, List.find?_eq_some_iff_getElem]
  refine and_congr_right fun _ => ⟨?_, fun hlower => ⟨i.val, by simp, by simp, fun n hn => ?_⟩⟩
  · rintro ⟨n, hn, rfl, hlower⟩ j hj
    simpa using hlower j.val (by simpa [Fin.lt_def] using hj)
  · rw [List.getElem_finRange, Bool.not_eq_true']
    exact hlower _ (by simpa [Fin.lt_def] using hn)

/-- The number of entries that gather. -/
def gatheringCount (s : State) : Nat := (Finset.univ.filter fun i => gathering s i = true).card

theorem gatheringCount_le (s : State) : gatheringCount s ≤ 4 := Finset.card_le_univ _

theorem gathering_arrive (s : State) (i : FenceNo) : gathering (arrive s) i = gathering s i := by
  rw [gathering, gathering, fence_arrive]
  cases s.fence i <;> rfl

theorem gatheringCount_arrive (s : State) : gatheringCount (arrive s) = gatheringCount s := by
  simp only [gatheringCount, gathering_arrive]

/-- A release leaves one entry fewer that gathers. -/
theorem gatheringCount_releaseFence {s : State} {i : FenceNo} (h : gathering s i = true) :
    gatheringCount (releaseFence i s) < gatheringCount s := by
  refine Finset.card_lt_card (Finset.ssubset_iff_of_subset (fun j hj => ?_) |>.mpr ⟨i, ?_, ?_⟩)
  · rw [Finset.mem_filter, gathering, fence_releaseFence] at hj
    by_cases hji : j = i
    · exact Finset.mem_filter.mpr ⟨Finset.mem_univ j, hji ▸ h⟩
    · rw [if_neg hji] at hj
      exact Finset.mem_filter.mpr hj
  · exact Finset.mem_filter.mpr ⟨Finset.mem_univ i, h⟩
  · rw [Finset.mem_filter, gathering, fence_releaseFence, if_pos rfl]
    nofun

/-- The lowest entry that arrival completes, which is released next (R118). -/
def nextRelease (s : State) : Option FenceNo := allFences.find? (fenceComplete (arrive s))

theorem nextRelease_eq_none_iff {s : State} :
    nextRelease s = none ↔ ∀ i, fenceComplete (arrive s) i = false := by
  simp [nextRelease, mem_allFences]

theorem nextRelease_eq_some_iff {s : State} {i : FenceNo} :
    nextRelease s = some i ↔
      fenceComplete (arrive s) i = true ∧ ∀ j < i, fenceComplete (arrive s) j = false :=
  find?_allFences

theorem releaseRounds_of_none {n : Nat} {s : State} (h : nextRelease s = none) :
    releaseRounds (n + 1) s = arrive s := by
  unfold nextRelease at h
  rw [releaseRounds, h]

theorem releaseRounds_of_some {n : Nat} {s : State} {i : FenceNo} (h : nextRelease s = some i) :
    releaseRounds (n + 1) s = releaseRounds n (releaseFence i (arrive s)) := by
  unfold nextRelease at h
  rw [releaseRounds, h]

theorem gatheringCount_nextRelease {s : State} {i : FenceNo} (h : nextRelease s = some i) :
    gatheringCount (releaseFence i (arrive s)) < gatheringCount s := by
  obtain ⟨hcomplete, -⟩ := nextRelease_eq_some_iff.mp h
  obtain ⟨g, hg, -⟩ := fenceComplete_iff.mp hcomplete
  rw [← gatheringCount_arrive s]
  exact gatheringCount_releaseFence (by rw [gathering, hg])

/-- Each round releases an entry, so rounds beyond the number of entries that gather change
nothing. -/
theorem releaseRounds_succ {n : Nat} {s : State} (h : gatheringCount s < n) :
    releaseRounds (n + 1) s = releaseRounds n s := by
  induction n generalizing s with
  | zero => exact absurd h (Nat.not_lt_zero _)
  | succ n ih =>
    cases hnext : nextRelease s with
    | none => rw [releaseRounds_of_none hnext, releaseRounds_of_none hnext]
    | some i =>
      have hless := gatheringCount_nextRelease hnext
      rw [releaseRounds_of_some hnext, releaseRounds_of_some hnext]
      exact ih (by omega)

theorem settleFences_of_none {s : State} (h : nextRelease s = none) : settleFences s = arrive s :=
  releaseRounds_of_none h

theorem settleFences_of_some {s : State} {i : FenceNo} (h : nextRelease s = some i) :
    settleFences s = settleFences (releaseFence i (arrive s)) := by
  have hless := gatheringCount_nextRelease h
  have hmax := gatheringCount_le s
  exact (releaseRounds_of_some h).trans (releaseRounds_succ (by omega)).symm

/-- The releases of an event, round by round: what holds when arrival completes no entry, and passes
back over each release, holds. -/
theorem settleFences_induction {motive : State → State → Prop}
    (done : ∀ s, nextRelease s = none → motive s (arrive s))
    (release : ∀ s i t, nextRelease s = some i → motive (releaseFence i (arrive s)) t → motive s t)
    (s : State) : motive s (settleFences s) := by
  cases hnext : nextRelease s with
  | none => rw [settleFences_of_none hnext]; exact done s hnext
  | some i =>
    rw [settleFences_of_some hnext]
    exact release s i _ hnext (settleFences_induction done release (releaseFence i (arrive s)))
termination_by gatheringCount s
decreasing_by exact gatheringCount_nextRelease hnext

theorem releaseOrder : Sys2Proof.Claim.ReleaseOrder := by
  refine fun s => ⟨fun hnone => ?_, fun i g hg hcomplete hlower => ?_⟩
  · exact settleFences_of_none
      (nextRelease_eq_none_iff.mpr fun i => not_fenceComplete_iff.mpr (hnone i))
  · exact settleFences_of_some (nextRelease_eq_some_iff.mpr
      ⟨fenceComplete_iff.mpr ⟨g, hg, hcomplete⟩, fun j hj =>
        not_fenceComplete_iff.mpr fun g' hg' => hlower j g' hj hg'⟩)

/-- The releases end where arrival completes no entry and changes nothing. -/
theorem settleFences_settled (s : State) :
    arrive (settleFences s) = settleFences s ∧ nextRelease (settleFences s) = none := by
  refine settleFences_induction (motive := fun _ t => arrive t = t ∧ nextRelease t = none)
    (fun s hnone => ⟨arrive_arrive s, ?_⟩) (fun _ _ _ _ h => h) s
  rw [nextRelease, arrive_arrive]
  exact hnone

/-- A release of an event frees entries, and an entry that still gathers has changed its arrived set
alone. -/
theorem fence_settleFences (s : State) :
    (∀ i g, (settleFences s).fence i = .gathering g →
      ∃ a, s.fence i = .gathering { g with arrived := a }) ∧
    ∀ i, s.fence i = .free → (settleFences s).fence i = .free := by
  refine settleFences_induction
    (motive := fun s t => (∀ i g, t.fence i = .gathering g →
      ∃ a, s.fence i = .gathering { g with arrived := a }) ∧
        ∀ i, s.fence i = .free → t.fence i = .free) (fun s _ => ?_) (fun s i t hnext h => ?_) s
  · refine ⟨fun i g hg => ?_, fun i => fence_arrive_free⟩
    obtain ⟨a, ha, -⟩ := gathering_of_arrive hg
    exact ⟨a, ha⟩
  · obtain ⟨hgathering, hfree⟩ := h
    refine ⟨fun j g hg => ?_, fun j hj => hfree j ?_⟩
    · obtain ⟨a, ha⟩ := hgathering j g hg
      rw [fence_releaseFence] at ha
      split at ha
      case isTrue => cases ha
      case isFalse =>
        obtain ⟨b, hb, -⟩ := gathering_of_arrive ha
        exact ⟨b, hb⟩
    · rw [fence_releaseFence]
      split
      case isTrue => rfl
      case isFalse => exact fence_arrive_free hj

theorem noneComplete : Sys2Proof.Claim.NoneComplete := by
  intro s
  obtain ⟨harrive, hnone⟩ := settleFences_settled s
  obtain ⟨hgathering, hfree⟩ := fence_settleFences s
  refine ⟨fun i g hg => ⟨?_, fun p hmember hhead => ?_, hgathering i g hg⟩, hfree, ?_⟩
  · have hincomplete := nextRelease_eq_none_iff.mp hnone i
    rw [harrive] at hincomplete
    exact not_fenceComplete_iff.mp hincomplete g hg
  · rw [← harrive] at hg
    exact arrived_of_arrive hg hmember hhead
  · rw [settleFences_of_none hnone, harrive]

/-- Settles O33: arrival entry by entry, then the releases round by round, of which there are no
more than entries that gather. -/
theorem releasesLeaveNoneComplete : Obligations.ReleasesLeaveNoneComplete :=
  ⟨arrival, releaseOrder, noneComplete⟩

/-! ### Placing a fence -/

/-- Items that join take a slot each, and one that comes to an empty queue calls the arbiter (R8,
R11). -/
theorem foldl_appendItem_eq (it : Item) {l : List PortNo} (hl : l.Nodup) (s : State) :
    l.foldl (appendItem it) s =
      { s with
        ports := (l.foldl (appendItem it) s).ports
        free := s.free - l.length
        decisionDue := s.decisionDue || l.any fun p => (s.port p).queue.isEmpty } := by
  induction l generalizing s with
  | nil => simp
  | cons p l ih =>
    obtain ⟨hp, hl⟩ := List.nodup_cons.mp hl
    have hrest : (l.any fun q => ((appendItem it s p).port q).queue.isEmpty) =
        l.any fun q => (s.port q).queue.isEmpty := any_congr_of_mem fun q hq => by
      rw [port_appendItem, if_neg (ne_of_mem_of_not_mem hq hp)]
    rw [List.foldl_cons, ih hl, hrest, appendItem_eq]
    simp [Bool.or_assoc, Nat.sub_sub, Nat.add_comm]

/-- The state once the entry and the markers of a fence are placed, before arrival (R116). -/
def placed (stamp : Count) (m : PortSet) (i : FenceNo) (s : State) : State :=
  (members m).foldl (appendItem (.marker stamp i))
    (takeReservation (setFence i (.gathering ⟨stamp, m, 0#16⟩) s))

theorem freeFence_eq_some_iff {s : State} {i : FenceNo} :
    freeFence s = some i ↔ s.fence i = .free ∧ ∀ j < i, s.fence j ≠ .free := by
  rw [freeFence, find?_allFences]
  simp

theorem placeFence_eq {s : State} {i : FenceNo} (h : freeFence s = some i) (stamp : Count)
    (m : PortSet) : placeFence stamp m s = settleFences (placed stamp m i s) := by
  rw [placeFence, h]; rfl

theorem port_placed (stamp : Count) (m : PortSet) (i : FenceNo) (s : State) (p : PortNo) :
    (placed stamp m i s).port p =
      if m.getLsbD p.val then { s.port p with queue := (s.port p).queue ++ [.marker stamp i] }
      else s.port p := by
  simp only [placed, port_foldl_appendItem _ _ (nodup_members m), mem_members]
  rfl

theorem placed_frame (stamp : Count) (m : PortSet) (i : FenceNo) (s : State) :
    placed stamp m i s =
      { s with
        ports := (placed stamp m i s).ports
        fences := s.fences.set i.val (.gathering ⟨stamp, m, 0#16⟩) i.isLt
        free := s.free - (members m).length
        reservations := s.reservations + 1
        decisionDue := s.decisionDue || (members m).any fun p => (s.port p).queue.isEmpty } :=
  foldl_appendItem_eq _ (nodup_members m) _

theorem fence_placed (stamp : Count) (m : PortSet) (i : FenceNo) (s : State) (j : FenceNo) :
    (placed stamp m i s).fence j = if j = i then .gathering ⟨stamp, m, 0#16⟩ else s.fence j := by
  rw [placed_frame]
  exact fence_setFence i j _ s

theorem fencePlacing : Sys2Proof.Claim.FencePlacing := by
  intro stamp m i s hfree hlower
  have hframe := placed_frame stamp m i s
  refine ⟨placed stamp m i s, placeFence_eq (freeFence_eq_some_iff.mpr ⟨hfree, hlower⟩) stamp m,
    (fence_placed stamp m i s i).trans (if_pos rfl),
    fun j hj => (fence_placed stamp m i s j).trans (if_neg hj), by rw [hframe],
    port_placed stamp m i s, ?_, by rw [hframe]⟩
  rw [hframe]

/-- Settles O22: the entry and its markers, and the release member by member. -/
theorem fencePlacingAndRelease : Obligations.FencePlacingAndRelease := ⟨fencePlacing, fenceRelease⟩

end Sys2Proof.Machine
end

section
/-! PROOF. Coherence taken apart: what holds at every moment of an event (`Stands`: ports, markers
and bus agree, but arrival, releases and closes may be due), and what the releases and the closes of
the event add to it (R68, R90, R114 to R122). -/

namespace Sys2Proof.Machine

-- One proof is elaborated at a time: many at once would each hold a thread's stack.
set_option Elab.async false

/-! ### Queues and the job in flight -/

theorem headKind_eq_some {q : List Item} {k : JobKind} :
    headKind q = some k ↔ ∃ st d a b rest, q = .job k st d a b :: rest := by
  cases q with
  | nil => simp [headKind]
  | cons it rest => cases it <;> simp [headKind]

/-- Two queues that coherence does not tell apart: the counters of the head may differ. -/
structure QueueAlike (q r : List Item) : Prop where
  head : headKind r = headKind q
  length : r.length = q.length
  markers : ∀ i, r.filter (Item.isMarkerOf i) = q.filter (Item.isMarkerOf i)
  front : ∀ i, r.head?.any (Item.isMarkerOf i) = q.head?.any (Item.isMarkerOf i)

theorem QueueAlike.of_eq {q r : List Item} (h : r = q) : QueueAlike q r := by
  rw [h]; exact ⟨rfl, rfl, fun _ => rfl, fun _ => rfl⟩

theorem QueueAlike.trans {q r u : List Item} (h : QueueAlike q r) (h' : QueueAlike r u) :
    QueueAlike q u :=
  ⟨h'.head.trans h.head, h'.length.trans h.length, fun i => (h'.markers i).trans (h.markers i),
    fun i => (h'.front i).trans (h.front i)⟩

theorem QueueAlike.eq_nil_iff {q r : List Item} (h : QueueAlike q r) : r = [] ↔ q = [] := by
  rw [← List.length_eq_zero_iff, h.length, List.length_eq_zero_iff]

theorem jobInFlight_eq (s : State) (p : PortNo) : jobInFlight s p = (flightKind s p).isSome := by
  unfold jobInFlight flightKind
  match s.bus with
  | .idle => rfl
  | .quiet _ _ => rfl
  | .sending ⟨.poll, _, _, _⟩ => simp
  | .awaiting ⟨.poll, _, _, _⟩ _ => simp
  | .sending ⟨.job k, q, _, _⟩ => by_cases hq : q = p <;> simp [hq]
  | .awaiting ⟨.job k, q, _, _⟩ _ => by_cases hq : q = p <;> simp [hq]

theorem flightKind_congr {s t : State} (h : t.bus = s.bus) (p : PortNo) :
    flightKind t p = flightKind s p := by
  rw [flightKind, flightKind, h]

theorem flightKind_eq_some {s : State} {p : PortNo} {k : JobKind} :
    flightKind s p = some k ↔ ∃ a r, s.bus = .sending ⟨.job k, p, a, r⟩ ∨
      ∃ d, s.bus = .awaiting ⟨.job k, p, a, r⟩ d := by
  unfold flightKind
  cases s.bus with
  | idle | quiet => simp
  | sending t | awaiting t d =>
    obtain ⟨kind, q, a, r⟩ := t
    cases kind with
    | poll => simp
    | job j => simp [and_comm]

/-- One job at most is in flight (R90). -/
theorem flightKind_other {s : State} {p q : PortNo} {k : JobKind} (h : flightKind s p = some k)
    (hq : q ≠ p) : flightKind s q = none := by
  rw [Option.eq_none_iff_forall_ne_some]
  intro j hj
  obtain ⟨a, r, hp⟩ := flightKind_eq_some.mp h
  obtain ⟨a', r', hq'⟩ := flightKind_eq_some.mp hj
  obtain hp | ⟨d, hp⟩ := hp <;> simp [hp, hq.symm] at hq'

theorem flightKind_idle {s : State} (h : s.bus = .idle) (p : PortNo) : flightKind s p = none := by
  rw [flightKind, h]

/-- An entry's marker is a marker of it. -/
theorem isMarkerOf_self (st : Count) (i : FenceNo) : (Item.marker st i).isMarkerOf i = true :=
  beq_self_eq_true i

/-! ### Ports -/

/-- What the state of a port asks of its queue and of the job in flight for it, at any moment of an
event: a port CLOSING with an empty queue has still to close (R12, R76, R77, R82). -/
def StateFits (flight : Option JobKind) (x : Port) : Prop :=
  match x.state with
  | .closed => x.queue = []
  | .opened => True
  | .faulted _ => (∃ k, headKind x.queue = some k) ∧ flight = none
  | .closing c => c.mode = .discard → x.queue = [] ∨ flight.isSome = true ∧ x.queue.length = 1

/-- A port CLOSING holds an item. -/
def ClosingHolds (x : Port) : Prop := ∀ c, x.state = .closing c → x.queue ≠ []

theorem portCoherent_iff {s : State} {p : PortNo} :
    portCoherent s p = true ↔
      (∀ k, flightKind s p = some k → headKind (s.port p).queue = some k) ∧
        StateFits (flightKind s p) (s.port p) ∧ ClosingHolds (s.port p) := by
  have hhead : (match flightKind s p with
      | none => true
      | some k => headKind (s.port p).queue == some k) = true ↔
        ∀ k, flightKind s p = some k → headKind (s.port p).queue = some k := by
    cases flightKind s p <;> simp
  refine Bool.and_eq_true_iff.trans ((and_congr_left fun _ => hhead).trans (and_congr_right ?_))
  generalize s.port p = x
  intro _
  cases hstate : x.state with
  | closed | opened => simp [StateFits, ClosingHolds, hstate]
  | faulted f => simp [StateFits, ClosingHolds, hstate, Option.isSome_iff_exists]
  | closing c =>
    cases hmode : c.mode with
    | finish => simp [StateFits, ClosingHolds, hstate, hmode]
    | discard => cases hqueue : x.queue <;> simp [StateFits, ClosingHolds, hstate, hmode, hqueue]

/-- A port that may have closed on an empty queue fits as it did. -/
theorem StateFits.congr {f : Option JobKind} {x y : Port} (h : StateFits f x)
    (hqueue : QueueAlike x.queue y.queue)
    (hstate : y.state = x.state ∨ y.state = .closed ∧ x.queue = []) : StateFits f y := by
  obtain hsame | ⟨hclosed, hnil⟩ := hstate
  · unfold StateFits at h ⊢
    rw [hsame, hqueue.eq_nil_iff, hqueue.head, hqueue.length]
    exact h
  · rw [StateFits, hclosed]
    exact hqueue.eq_nil_iff.mpr hnil

theorem ClosingHolds.congr {x y : Port} (h : ClosingHolds x) (hqueue : QueueAlike x.queue y.queue)
    (hstate : y.state = x.state ∨ y.state = .closed ∧ x.queue = []) : ClosingHolds y := by
  intro c hc hnil
  obtain hsame | ⟨hclosed, -⟩ := hstate
  · exact h c (hsame.symm.trans hc) (hqueue.eq_nil_iff.mp hnil)
  · rw [hclosed] at hc; cases hc

/-! ### Markers -/

/-- The markers of entry `i` that the queue of port `p` holds (R114). -/
def entryMarkers (i : FenceNo) (p : PortNo) : FenceEntry → List Item
  | .free => []
  | .gathering g => if g.members.getLsbD p.val then [.marker g.stamp i] else []

/-- Entry `i` and its markers agree, at any moment of an event: arrival and release may be due
(R114, R115). -/
structure FenceStands (s : State) (i : FenceNo) : Prop where
  markers : ∀ p, (s.port p).queue.filter (Item.isMarkerOf i) = entryMarkers i p (s.fence i)
  members : ∀ g, s.fence i = .gathering g → 2 ≤ (members g.members).length
  arrived : ∀ g, s.fence i = .gathering g → ∀ p : PortNo, g.arrived.getLsbD p.val = true →
    headIsMarker s i p = true

/-- No arrival at entry `i` and no release of it is due (R115, R118). -/
def FenceSettled (s : State) (i : FenceNo) : Prop :=
  ∀ g, s.fence i = .gathering g → g.arrived ≠ g.members ∧
    ∀ p : PortNo, g.members.getLsbD p.val = true → headIsMarker s i p = true →
      g.arrived.getLsbD p.val = true

/-- A marker in a queue is that of an entry that gathers, with the port as its member. -/
theorem FenceStands.member_of_marker {s : State} {i : FenceNo} (h : FenceStands s i) {p : PortNo}
    {it : Item} (hit : it ∈ (s.port p).queue) (hmark : it.isMarkerOf i = true) :
    ∃ g, s.fence i = .gathering g ∧ g.members.getLsbD p.val = true := by
  have hmem : it ∈ entryMarkers i p (s.fence i) := by
    rw [← h.markers]
    exact List.mem_filter.mpr ⟨hit, hmark⟩
  cases hs : s.fence i with
  | free => rw [hs] at hmem; cases hmem
  | gathering g =>
    rw [hs, entryMarkers] at hmem
    split at hmem
    case isTrue hp => exact ⟨g, rfl, hp⟩
    case isFalse => cases hmem

theorem FenceStands.member_of_head {s : State} {i : FenceNo} (h : FenceStands s i) {p : PortNo}
    (hhead : headIsMarker s i p = true) :
    ∃ g, s.fence i = .gathering g ∧ g.members.getLsbD p.val = true := by
  obtain ⟨st, rest, hqueue⟩ := (headIsMarker_iff s i p).mp hhead
  exact h.member_of_marker (it := .marker st i) (by rw [hqueue]; exact List.mem_cons_self)
    (isMarkerOf_self st i)

theorem fenceCoherent_iff {s : State} {i : FenceNo} :
    fenceCoherent s i = true ↔ FenceStands s i ∧ FenceSettled s i := by
  unfold fenceCoherent
  split
  case h_1 hs =>
    have hmarkers : FenceStands s i ↔ ∀ p, (s.port p).queue.filter (Item.isMarkerOf i) = [] :=
      ⟨fun h p => by rw [h.markers, hs]; rfl,
        fun h => ⟨fun p => by rw [h, hs]; rfl, by simp [hs], by simp [hs]⟩⟩
    simp [hmarkers, FenceSettled, hs, mem_allPorts]
  case h_2 g hs =>
    simp only [Bool.and_eq_true, decide_eq_true_eq, bne_iff_ne, ne_eq, List.all_eq_true,
      mem_allPorts, forall_const, beq_iff_eq]
    constructor
    · rintro ⟨⟨hmembers, hincomplete⟩, hports⟩
      refine ⟨⟨fun p => by rw [(hports p).1, hs]; rfl, fun g' hg' => ?_, fun g' hg' p hp => ?_⟩,
        fun g' hg' => ⟨?_, fun p _ hhead => ?_⟩⟩ <;>
        obtain rfl := FenceEntry.gathering.inj (hs.symm.trans hg')
      · exact hmembers
      · exact (hports p).2 ▸ hp
      · exact hincomplete
      · exact (hports p).2.trans hhead
    · rintro ⟨hstands, hsettled⟩
      obtain ⟨hincomplete, hjoined⟩ := hsettled g hs
      refine ⟨⟨hstands.members g hs, hincomplete⟩, fun p => ⟨?_, ?_⟩⟩
      · rw [hstands.markers, hs]; rfl
      · refine Bool.eq_iff_iff.mpr ⟨hstands.arrived g hs p, fun hhead => hjoined p ?_ hhead⟩
        obtain ⟨g', hg', hp⟩ := hstands.member_of_head hhead
        obtain rfl := FenceEntry.gathering.inj (hs.symm.trans hg')
        exact hp

/-- An entry stands as it did where it is the same, its markers are where they were, and none has
left a head. -/
theorem FenceStands.congr {s t : State} {i : FenceNo} (h : FenceStands s i)
    (hfence : t.fence i = s.fence i)
    (hmarkers : ∀ p, (t.port p).queue.filter (Item.isMarkerOf i) =
      (s.port p).queue.filter (Item.isMarkerOf i))
    (hhead : ∀ p, headIsMarker s i p = true → headIsMarker t i p = true) : FenceStands t i where
  markers p := by rw [hmarkers, hfence, h.markers]
  members g hg := h.members g (hfence ▸ hg)
  arrived g hg p hp := hhead p (h.arrived g (hfence ▸ hg) p hp)

/-- A FREE entry without markers stands. -/
theorem FenceStands.of_free {t : State} {i : FenceNo} (hfree : t.fence i = .free)
    (hnone : ∀ p, (t.port p).queue.filter (Item.isMarkerOf i) = []) : FenceStands t i :=
  ⟨fun p => by rw [hnone, hfree]; rfl, by simp [hfree], by simp [hfree]⟩

/-- An entry stays settled where it is the same and no marker has come to a head. -/
theorem FenceSettled.congr {s t : State} {i : FenceNo} (h : FenceSettled s i)
    (hfence : t.fence i = s.fence i)
    (hhead : ∀ p, headIsMarker t i p = true → headIsMarker s i p = true) : FenceSettled t i :=
  fun g hg =>
    have ⟨hincomplete, hjoined⟩ := h g (hfence ▸ hg)
    ⟨hincomplete, fun p hp hmark => hjoined p hp (hhead p hmark)⟩

/-! ### The whole state -/

/-- Ports, markers and bus agree at any moment of an event, the port states being read on the ports
`on` alone. -/
structure StandsOn (on : Set PortNo) (s : State) : Prop where
  head : ∀ p k, flightKind s p = some k → headKind (s.port p).queue = some k
  fits : ∀ p ∈ on, StateFits (flightKind s p) (s.port p)
  fence : ∀ i, FenceStands s i
  awaited : noSendAwaited s = true

/-- Ports, markers and bus agree at any moment of an event: arrival, releases and closes may be
due. -/
abbrev Stands (s : State) : Prop := StandsOn Set.univ s

theorem coherent_iff (s : State) :
    Coherent s ↔
      Stands s ∧ (∀ i, FenceSettled s i) ∧ ∀ p, ClosingHolds (s.port p) := by
  unfold Coherent
  simp only [portCoherent_iff, fenceCoherent_iff, forall_and]
  constructor
  · rintro ⟨⟨hhead, hfits, hholds⟩, ⟨hfences, hsettled⟩, hsend⟩
    exact ⟨⟨hhead, fun p _ => hfits p, hfences, hsend⟩, hsettled, hholds⟩
  · rintro ⟨hstands, hsettled, hholds⟩
    exact ⟨⟨hstands.head, fun p => hstands.fits p trivial, hholds⟩, ⟨hstands.fence, hsettled⟩,
      hstands.awaited⟩

theorem StandsOn.mono {on on' : Set PortNo} {s : State} (h : StandsOn on s) (hsub : on' ⊆ on) :
    StandsOn on' s := ⟨h.head, fun p hp => h.fits p (hsub hp), h.fence, h.awaited⟩

/-- The port left out is looked at again. -/
theorem StandsOn.all {p : PortNo} {s : State} (h : StandsOn {p}ᶜ s)
    (hp : StateFits (flightKind s p) (s.port p)) : Stands s :=
  ⟨h.head, fun q _ => if hq : q = p then hq ▸ hp else h.fits q hq, h.fence, h.awaited⟩

/-! ### Changes that coherence does not tell -/

/-- `t` is `s` but for what coherence does not read; a port with an empty queue may have closed.
Port states are compared on the ports `on` alone. -/
structure KeepsLayout (on : Set PortNo) (s t : State) : Prop where
  flight : ∀ p, flightKind t p = flightKind s p
  awaited : noSendAwaited s = true → noSendAwaited t = true
  fence : ∀ i, t.fence i = s.fence i
  queue : ∀ p, QueueAlike (s.port p).queue (t.port p).queue
  state : ∀ p ∈ on, (t.port p).state = (s.port p).state ∨
    (t.port p).state = .closed ∧ (s.port p).queue = []

section
variable {on : Set PortNo} {s t u : State}

theorem KeepsLayout.restrict (h : KeepsLayout Set.univ s t) (on : Set PortNo) :
    KeepsLayout on s t :=
  ⟨h.flight, h.awaited, h.fence, h.queue, fun p _ => h.state p trivial⟩

theorem KeepsLayout.trans (h : KeepsLayout on s t) (h' : KeepsLayout on t u) :
    KeepsLayout on s u where
  flight p := (h'.flight p).trans (h.flight p)
  awaited hs := h'.awaited (h.awaited hs)
  fence i := (h'.fence i).trans (h.fence i)
  queue p := (h.queue p).trans (h'.queue p)
  state p hp := by
    obtain hsame' | ⟨hclosed, hnil⟩ := h'.state p hp
    · rw [hsame']; exact h.state p hp
    · exact .inr ⟨hclosed, (h.queue p).eq_nil_iff.mp hnil⟩

/-- A change of port records alone. -/
theorem KeepsLayout.of_queues (hqueue : ∀ p, QueueAlike (s.port p).queue (t.port p).queue)
    (hstate : ∀ p ∈ on, (t.port p).state = (s.port p).state ∨
      (t.port p).state = .closed ∧ (s.port p).queue = [])
    (hfences : t.fences = s.fences := by rfl) (hbus : t.bus = s.bus := by rfl) :
    KeepsLayout on s t where
  flight := flightKind_congr hbus
  awaited := by rw [noSendAwaited, noSendAwaited, hbus]; exact id
  fence i := by rw [State.fence, State.fence, hfences]
  queue := hqueue
  state := hstate

/-- A write of fields that coherence does not read. -/
theorem KeepsLayout.of_fields (hports : t.ports = s.ports := by rfl)
    (hfences : t.fences = s.fences := by rfl) (hbus : t.bus = s.bus := by rfl) :
    KeepsLayout on s t := by
  have hport : ∀ p, t.port p = s.port p := fun p => by rw [State.port, State.port, hports]
  exact .of_queues (fun p => .of_eq (by rw [hport])) (fun p _ => .inl (by rw [hport])) hfences hbus

/-- A change of the bus between transactions of the same job, or of none. -/
theorem KeepsLayout.of_bus (hflight : ∀ p, flightKind t p = flightKind s p)
    (hawaited : noSendAwaited s = true → noSendAwaited t = true)
    (hports : t.ports = s.ports := by rfl) (hfences : t.fences = s.fences := by rfl) :
    KeepsLayout on s t := by
  have h : KeepsLayout on s { t with bus := s.bus } := .of_fields hports hfences
  exact ⟨hflight, hawaited, h.fence, h.queue, h.state⟩

theorem SamePool.keepsLayout (h : SamePool s t) (hfences : t.fences = s.fences := by rfl)
    (hbus : t.bus = s.bus := by rfl) : KeepsLayout on s t := by
  refine .of_queues (fun p => ?_) (fun p _ => .inl ?_) hfences hbus <;>
    obtain ⟨hstate, -, hqueue, -⟩ := poolPart_eq_iff.mp (h.port p)
  · exact .of_eq hqueue
  · exact hstate

theorem KeepsLayout.headIsMarker_eq (h : KeepsLayout on s t) (i : FenceNo) (p : PortNo) :
    headIsMarker t i p = headIsMarker s i p := by
  rw [Machine.headIsMarker_eq, Machine.headIsMarker_eq, (h.queue p).front]

theorem KeepsLayout.standsOn (h : KeepsLayout on s t) (hs : StandsOn on s) : StandsOn on t where
  head p k hk := (h.queue p).head.trans (hs.head p k (h.flight p ▸ hk))
  fits p hp := h.flight p ▸ (hs.fits p hp).congr (h.queue p) (h.state p hp)
  fence i := (hs.fence i).congr (h.fence i) (fun p => (h.queue p).markers i) fun p =>
    (h.headIsMarker_eq i p).trans
  awaited := h.awaited hs.awaited

theorem KeepsLayout.settled (h : KeepsLayout on s t) (hs : ∀ i, FenceSettled s i) (i : FenceNo) :
    FenceSettled t i := (hs i).congr (h.fence i) fun p => (h.headIsMarker_eq i p).symm.trans

theorem KeepsLayout.coherent (h : KeepsLayout Set.univ s t) (hs : Coherent s) : Coherent t := by
  obtain ⟨hstands, hsettled, hholds⟩ := (coherent_iff s).mp hs
  exact (coherent_iff t).mpr ⟨h.standsOn hstands, h.settled hsettled,
    fun p => (hholds p).congr (h.queue p) (h.state p trivial)⟩

end

/-! ### Items that leave queues -/

/-- Of the queue `q` the queue `r` has lost the markers of the entries `l` and no other marker, and
none of the others has left the head. -/
structure MarkersEnd (l : List FenceNo) (q r : List Item) : Prop where
  gone : ∀ i ∈ l, r.filter (Item.isMarkerOf i) = []
  kept : ∀ i, i ∉ l → r.filter (Item.isMarkerOf i) = q.filter (Item.isMarkerOf i)
  front : ∀ i, i ∉ l → q.head?.any (Item.isMarkerOf i) = true →
    r.head?.any (Item.isMarkerOf i) = true

theorem fenceStands_of_markersEnd {s t : State} {l : List FenceNo} (hs : ∀ i, FenceStands s i)
    (hfence : ∀ i, t.fence i = if i ∈ l then .free else s.fence i)
    (hqueue : ∀ p, MarkersEnd l (s.port p).queue (t.port p).queue) (i : FenceNo) :
    FenceStands t i := by
  by_cases hi : i ∈ l
  · exact .of_free (by rw [hfence, if_pos hi]) fun p => (hqueue p).gone i hi
  · refine (hs i).congr (by rw [hfence, if_neg hi]) (fun p => (hqueue p).kept i hi) fun p => ?_
    rw [headIsMarker_eq, headIsMarker_eq]
    exact (hqueue p).front i hi

/-- No item is the marker of two entries. -/
theorem isMarkerOf_unique {it : Item} {i j : FenceNo} (hi : it.isMarkerOf i = true)
    (hj : it.isMarkerOf j = true) : i = j := by
  obtain ⟨st, rfl⟩ := (isMarkerOf_iff it i).mp hi
  simpa [Item.isMarkerOf] using hj

theorem markersEnd_withoutMarkers (l : List FenceNo) (q : List Item) :
    MarkersEnd l q (withoutMarkers l q) := by
  have hstays : ∀ i, i ∉ l → ∀ it : Item, it.isMarkerOf i = true →
      (l.all fun j => !it.isMarkerOf j) = true := by
    intro i hi it hit
    rw [List.all_eq_true]
    intro j hj
    rw [Bool.not_eq_true', ← Bool.not_eq_true]
    exact fun hmark => hi (isMarkerOf_unique hmark hit ▸ hj)
  refine ⟨fun i hi => ?_, fun i hi => ?_, fun i hi hhead => ?_⟩
  · rw [withoutMarkers, List.filter_filter, List.filter_eq_nil_iff]
    intro it _ hboth
    obtain ⟨hmark, hnone⟩ := Bool.and_eq_true_iff.mp hboth
    have hnot := List.all_eq_true.mp hnone i hi
    rw [hmark] at hnot
    cases hnot
  · rw [withoutMarkers, List.filter_filter]
    refine List.filter_congr fun it _ => ?_
    cases hit : it.isMarkerOf i
    · rfl
    · rw [hstays i hi it hit]; rfl
  · cases q with
    | nil => cases hhead
    | cons it rest =>
      have hit : it.isMarkerOf i = true := hhead
      have hfirst : withoutMarkers l (it :: rest) = it :: withoutMarkers l rest :=
        List.filter_cons_of_pos (hstays i hi it hit)
      rw [hfirst]
      exact hit

theorem markersEnd_job_tail (k : JobKind) (st : Count) (d : List Byte) (a b : Nat)
    (rest : List Item) : MarkersEnd [] (.job k st d a b :: rest) rest :=
  ⟨nofun, fun _ _ => (List.filter_cons_of_neg Bool.false_ne_true).symm, nofun⟩

/-- The queue that a discard keeps: nothing, or the job in flight (R15). -/
theorem kept_eq {s : State} {p : PortNo}
    (hhead : ∀ k, flightKind s p = some k → headKind (s.port p).queue = some k) :
    kept s p = [] ∧ flightKind s p = none ∨
      ∃ k st d a b, flightKind s p = some k ∧ kept s p = [.job k st d a b] := by
  unfold kept
  rw [jobInFlight_eq]
  cases hflight : flightKind s p with
  | none => exact .inl ⟨rfl, rfl⟩
  | some k =>
    obtain ⟨st, d, a, b, rest, hqueue⟩ := headKind_eq_some.mp (hhead k hflight)
    exact .inr ⟨k, st, d, a, b, rfl, by rw [hqueue]; rfl⟩

/-- A discard removes the markers of the fences that break, and no other. -/
theorem markersEnd_kept {s : State} {p : PortNo}
    (hhead : ∀ k, flightKind s p = some k → headKind (s.port p).queue = some k) :
    MarkersEnd (brokenFences s p) (s.port p).queue (kept s p) := by
  have hnone : ∀ i, (kept s p).filter (Item.isMarkerOf i) = [] := by
    intro i
    obtain ⟨hnil, -⟩ | ⟨k, st, d, a, b, -, hjob⟩ := kept_eq hhead
    · rw [hnil]; rfl
    · rw [hjob]; rfl
  have hwhole : ∀ i, i ∉ brokenFences s p → (s.port p).queue.filter (Item.isMarkerOf i) = [] := by
    intro i hi
    rw [← kept_append_discarded, List.filter_append, hnone, List.nil_append, List.filter_eq_nil_iff]
    exact fun it hit hmark => hi (mem_brokenFences.mpr ⟨it, hit, hmark⟩)
  refine ⟨fun i _ => hnone i, fun i hi => (hnone i).trans (hwhole i hi).symm, fun i hi hfront => ?_⟩
  obtain ⟨it, hit, hmark⟩ := (Option.any_eq_true _ _).mp hfront
  exact absurd hmark (List.filter_eq_nil_iff.mp (hwhole i hi) it (List.mem_of_head? hit))

/-- A job at the head stays there when markers leave. -/
theorem withoutMarkers_job (l : List FenceNo) (k : JobKind) (st : Count) (d : List Byte) (a b : Nat)
    (rest : List Item) :
    withoutMarkers l (.job k st d a b :: rest) = .job k st d a b :: withoutMarkers l rest :=
  List.filter_cons_of_pos (List.all_eq_true.mpr fun _ _ => rfl)

theorem headKind_withoutMarkers {l : List FenceNo} {q : List Item} {k : JobKind}
    (h : headKind q = some k) : headKind (withoutMarkers l q) = some k := by
  obtain ⟨st, d, a, b, rest, rfl⟩ := headKind_eq_some.mp h
  rw [withoutMarkers_job]; rfl

theorem StateFits.withoutMarkers {f : Option JobKind} {x y : Port} {l : List FenceNo}
    (h : StateFits f x) (hhead : ∀ k, f = some k → headKind x.queue = some k)
    (hqueue : y.queue = withoutMarkers l x.queue) (hstate : y.state = x.state) :
    StateFits f y := by
  unfold StateFits at h ⊢
  rw [hstate, hqueue]
  cases hx : x.state with
  | closed => rw [hx] at h; rw [h]; rfl
  | opened => trivial
  | faulted c =>
    rw [hx] at h
    obtain ⟨⟨k, hk⟩, hnone⟩ := h
    exact ⟨⟨k, headKind_withoutMarkers hk⟩, hnone⟩
  | closing c =>
    rw [hx] at h
    intro hmode
    obtain hnil | ⟨hflight, hlength⟩ := h hmode
    · rw [hnil]; exact .inl rfl
    · obtain ⟨k, hk⟩ := Option.isSome_iff_exists.mp hflight
      obtain ⟨st, d, a, b, rest, hjob⟩ := headKind_eq_some.mp (hhead k hk)
      rw [hjob] at hlength
      obtain rfl : rest = [] := List.length_eq_zero_iff.mp (by simpa using hlength)
      refine .inr ⟨hflight, ?_⟩
      rw [hjob, withoutMarkers_job]; rfl

/-! ### Releases -/

theorem stands_arrive {on : Set PortNo} {s : State} (h : StandsOn on s) :
    StandsOn on (arrive s) where
  head p k hk := by
    rw [flightKind_congr (bus_arrive s)] at hk
    rw [port_arrive]
    exact h.head p k hk
  fits p hp := by
    rw [flightKind_congr (bus_arrive s), port_arrive]
    exact h.fits p hp
  fence i :=
    { markers := fun p => by
        rw [port_arrive, (h.fence i).markers, fence_arrive]
        cases s.fence i <;> rfl
      members := fun g hg => by
        obtain ⟨a, ha, -⟩ := gathering_of_arrive hg
        exact (h.fence i).members { g with arrived := a } ha
      arrived := fun g hg p hp => by
        obtain ⟨a, ha, hbits⟩ := gathering_of_arrive hg
        rw [headIsMarker_arrive]
        rw [hbits, Bool.or_eq_true, Bool.and_eq_true] at hp
        exact hp.elim ((h.fence i).arrived _ ha p) And.right }
  awaited := by
    rw [noSendAwaited, bus_arrive]
    exact h.awaited

theorem withoutMarkers_eq_self {i : FenceNo} {q : List Item}
    (h : q.filter (Item.isMarkerOf i) = []) : withoutMarkers [i] q = q := by
  refine List.filter_eq_self.mpr fun it hit => ?_
  have hnot := List.filter_eq_nil_iff.mp h it hit
  simpa using hnot

/-- A member's queue has the fence's marker once, so its removal from the head leaves none (R114,
R117). -/
theorem FenceStands.tail_eq {s : State} {i : FenceNo} (h : FenceStands s i) {p : PortNo}
    (hhead : headIsMarker s i p = true) :
    (s.port p).queue.tail = withoutMarkers [i] (s.port p).queue := by
  obtain ⟨st, rest, hqueue⟩ := (headIsMarker_iff s i p).mp hhead
  obtain ⟨g, hg, hp⟩ := h.member_of_head hhead
  have hmarkers := h.markers p
  have hmark := isMarkerOf_self st i
  rw [hg, entryMarkers, if_pos hp, hqueue, List.filter_cons_of_pos hmark] at hmarkers
  have hnone : rest.filter (Item.isMarkerOf i) = [] := (List.cons.inj hmarkers).2
  have hdrop : withoutMarkers [i] (.marker st i :: rest) = withoutMarkers [i] rest :=
    List.filter_cons_of_neg (by simp [hmark])
  rw [hqueue, hdrop, withoutMarkers_eq_self hnone]; rfl

/-- The members of a fence that stands are some. -/
theorem FenceStands.members_ne_zero {s : State} {i : FenceNo} (h : FenceStands s i) {g : Gathering}
    (hg : s.fence i = .gathering g) : g.members ≠ 0 := by
  intro hzero
  have hmin := h.members g hg
  rw [hzero] at hmin
  exact absurd hmin (by decide)

/-- The release of a fence whose markers stand at the heads takes its markers out of the queues. -/
theorem queue_releaseFence {s : State} {i : FenceNo} {g : Gathering} (h : FenceStands s i)
    (hg : s.fence i = .gathering g)
    (hall : ∀ p : PortNo, g.members.getLsbD p.val = true → headIsMarker s i p = true) (p : PortNo) :
    ((releaseFence i s).port p).queue = withoutMarkers [i] (s.port p).queue ∧
      ((releaseFence i s).port p).state = (s.port p).state := by
  obtain ⟨t, rfl, hport, -⟩ := fenceRelease i g s hg hall (h.members_ne_zero hg)
  rw [hport]
  split
  case isTrue hp => exact ⟨h.tail_eq (hall p hp), rfl⟩
  case isFalse hp =>
    have hnone := h.markers p
    rw [hg, entryMarkers, if_neg hp] at hnone
    exact ⟨(withoutMarkers_eq_self hnone).symm, rfl⟩

theorem bus_releaseFence {s : State} {i : FenceNo} {g : Gathering} (h : FenceStands s i)
    (hg : s.fence i = .gathering g)
    (hall : ∀ p : PortNo, g.members.getLsbD p.val = true → headIsMarker s i p = true) :
    (releaseFence i s).bus = s.bus := by
  obtain ⟨t, rfl, -, hframe⟩ := fenceRelease i g s hg hall (h.members_ne_zero hg)
  rw [hframe]

theorem stands_releaseFence {on : Set PortNo} {s : State} (h : StandsOn on s) {i : FenceNo}
    {g : Gathering} (hg : s.fence i = .gathering g)
    (hall : ∀ p : PortNo, g.members.getLsbD p.val = true → headIsMarker s i p = true) :
    StandsOn on (releaseFence i s) := by
  have hqueue := queue_releaseFence (h.fence i) hg hall
  have hbus := bus_releaseFence (h.fence i) hg hall
  refine ⟨fun p k hk => ?_, fun p hp => ?_, fenceStands_of_markersEnd (l := [i]) h.fence
    (fun j => by simp only [fence_releaseFence, List.mem_singleton]) fun p => ?_, ?_⟩
  · rw [(hqueue p).1]
    exact headKind_withoutMarkers (h.head p k (flightKind_congr hbus p ▸ hk))
  · rw [flightKind_congr hbus]
    exact (h.fits p hp).withoutMarkers (h.head p) (hqueue p).1 (hqueue p).2
  · rw [(hqueue p).1]
    exact markersEnd_withoutMarkers [i] _
  · rw [noSendAwaited, hbus]
    exact h.awaited

/-- An entry that arrival completes has its marker at the head of every member. -/
theorem heads_of_complete {s : State} {i : FenceNo} (h : FenceStands (arrive s) i)
    (hcomplete : fenceComplete (arrive s) i = true) :
    ∃ g, (arrive s).fence i = .gathering g ∧
      ∀ p : PortNo, g.members.getLsbD p.val = true → headIsMarker (arrive s) i p = true := by
  obtain ⟨g, hg, hall⟩ := fenceComplete_iff.mp hcomplete
  exact ⟨g, hg, fun p hp => h.arrived g hg p (by rwa [hall])⟩

theorem stands_settleFences {on : Set PortNo} {s : State} (h : StandsOn on s) :
    StandsOn on (settleFences s) := by
  refine settleFences_induction (motive := fun s t => StandsOn on s → StandsOn on t)
    (fun s _ => stands_arrive) (fun s i t hnext ih hs => ih ?_) s h
  have hs' := stands_arrive hs
  obtain ⟨hcomplete, -⟩ := nextRelease_eq_some_iff.mp hnext
  obtain ⟨g, hg, hall⟩ := heads_of_complete (hs'.fence i) hcomplete
  exact stands_releaseFence hs' hg hall

theorem fenceSettled_settleFences (s : State) (i : FenceNo) : FenceSettled (settleFences s) i := by
  intro g hg
  obtain ⟨hleft, -⟩ := noneComplete s
  obtain ⟨hincomplete, hjoined, -⟩ := hleft i g hg
  exact ⟨hincomplete, hjoined⟩

/-! ### Closes -/

theorem keepsLayout_closeIfDone (special : Option (PortNo × ClosedCause)) (s : State)
    (p : PortNo) : KeepsLayout Set.univ s (closeIfDone special s p) := by
  obtain h | ⟨c, cause, hstate, hqueue, -, h⟩ := closeIfDone_cases special s p
  · rw [h]; exact .of_fields
  · rw [h]
    have hport := port_closePort hstate cause
    refine .of_queues (fun q => ?_) (fun q _ => ?_) (by rw [closePort_eq hstate]; rfl)
      (by rw [closePort_eq hstate]; rfl)
    · rw [hport]
      split
      case isTrue hq => subst hq; exact .of_eq rfl
      case isFalse => exact .of_eq rfl
    · rw [hport]
      split
      case isTrue hq => subst hq; exact .inr ⟨rfl, hqueue⟩
      case isFalse => exact .inl rfl

theorem keepsLayout_closeDonePorts (special : Option (PortNo × ClosedCause)) (s : State) :
    KeepsLayout Set.univ s (closeDonePorts special s) := by
  have hfold : ∀ (l : List PortNo) (u : State),
      KeepsLayout Set.univ u (l.foldl (closeIfDone special) u) := by
    intro l
    induction l with
    | nil => exact fun _ => .of_fields
    | cons p l ih => exact fun u => (keepsLayout_closeIfDone special u p).trans (ih _)
  exact hfold allPorts s

/-- The closes of an event leave no port CLOSING with an empty queue (R77, R122). -/
theorem coherent_closeDonePorts {s : State} (special : Option (PortNo × ClosedCause))
    (hs : Stands s) (hsettled : ∀ i, FenceSettled s i) : Coherent (closeDonePorts special s) := by
  have hkeeps := keepsLayout_closeDonePorts special s
  have ht := hkeeps.standsOn hs
  refine (coherent_iff _).mpr ⟨ht, hkeeps.settled hsettled, fun p c hc hnil => ?_⟩
  refine not_nothingLeft_closeDonePorts special s p ⟨⟨c, hc⟩, hnil, ?_⟩
  rw [jobInFlight_eq, Option.isSome_eq_false_iff, Option.isNone_iff_eq_none,
    Option.eq_none_iff_forall_ne_some]
  intro k hk
  have hhead := ht.head p k hk
  rw [hnil] at hhead
  cases hhead

/-- What follows a change of heads makes coherent what stands (R118, R122). -/
theorem coherent_afterHeads {s : State} (special : Option (PortNo × ClosedCause)) (h : Stands s) :
    Coherent (afterHeads special s) :=
  coherent_closeDonePorts special (stands_settleFences h) (fenceSettled_settleFences s)

/-! ### Discards -/

theorem keepsLayout_modPort {p : PortNo} {f : Port → Port} {s : State}
    (hqueue : QueueAlike (s.port p).queue (f (s.port p)).queue)
    (hstate : (f (s.port p)).state = (s.port p).state) :
    KeepsLayout Set.univ s (modPort p f s) := by
  refine .of_queues (fun q => ?_) fun q _ => ?_
  · rw [port_modPort]
    split
    case isTrue hq => subst hq; exact hqueue
    case isFalse => exact .of_eq rfl
  · rw [port_modPort]
    split
    case isTrue hq => subst hq; exact .inl hstate
    case isFalse => exact .inl rfl

/-- A change of one port's state is told at that port alone. -/
theorem keepsLayout_modPort_state {p : PortNo} {f : Port → Port} {s : State}
    (hqueue : (f (s.port p)).queue = (s.port p).queue) :
    KeepsLayout {p}ᶜ s (modPort p f s) := by
  refine .of_queues (fun q => ?_) fun q hq => .inl ?_
  · rw [port_modPort]
    split
    case isTrue hq => subst hq; exact .of_eq hqueue
    case isFalse => exact .of_eq rfl
  · rw [port_modPort, if_neg (show q ≠ p from hq)]

/-- A port OPEN or CLOSING fits a queue that is empty or holds the job in flight alone. -/
theorem stateFits_of_single {f : Option JobKind} {x : Port}
    (hstate : x.state = .opened ∨ ∃ c, x.state = .closing c)
    (hqueue : x.queue = [] ∨ f.isSome = true ∧ x.queue.length = 1) : StateFits f x := by
  unfold StateFits
  obtain hopen | ⟨c, hclosing⟩ := hstate
  · rw [hopen]; trivial
  · rw [hclosing]
    exact fun _ => hqueue

theorem fencesBroken_of_stands {s : State} {p : PortNo} (reason : BreakReason)
    (hs : ∀ i, FenceStands s i) :
    FencesBroken p reason (brokenFences s p) (emptyQueue p s) (discardQueue p reason s) := by
  refine fencesBroken_discardQueue reason (fun i g hg _ q hq it hit => ?_)
    fun i ⟨it, hit, hmark⟩ => ?_
  · rw [← Bool.not_eq_true]
    intro hmark
    obtain ⟨g', hg', hmember⟩ := (hs i).member_of_marker hit hmark
    obtain rfl := FenceEntry.gathering.inj (hg.symm.trans hg')
    rw [hq] at hmember
    cases hmember
  · refine (hs i).member_of_marker ?_ hmark
    rw [← kept_append_discarded]
    exact List.mem_append_right _ hit

/-- What a discard leaves of a state that stands but for the state of the port: the port's queue is
what it keeps, and the other queues have lost the markers of the fences that broke (R15, R20). -/
structure Discarded (p : PortNo) (s t : State) : Prop where
  stands : StandsOn {p}ᶜ t
  queue : (t.port p).queue = [] ∨ (flightKind t p).isSome = true ∧ (t.port p).queue.length = 1
  state : (t.port p).state = (s.port p).state

theorem discarded_discardQueue {s : State} {p : PortNo} (reason : BreakReason)
    (h : StandsOn {p}ᶜ s) : Discarded p s (discardQueue p reason s) := by
  have hbroken := fencesBroken_of_stands (p := p) reason h.fence
  obtain ⟨ports, free, due, hempty⟩ := emptyQueue_frame p s
  have hbus : (discardQueue p reason s).bus = s.bus := by
    rw [hbroken.frame, State.discardedAs, hempty]
  have hself : (discardQueue p reason s).port p = { s.port p with queue := kept s p } := by
    rw [hbroken.port_self, port_emptyQueue, if_pos rfl]
  have hother : ∀ q, q ≠ p → (discardQueue p reason s).port q =
      { s.port q with queue := withoutMarkers (brokenFences s p) (s.port q).queue } := by
    intro q hq
    rw [hbroken.port_other q hq, port_emptyQueue, if_neg hq]
  have hfence : ∀ i, (discardQueue p reason s).fence i =
      if i ∈ brokenFences s p then .free else s.fence i := fun i => by
    rw [hbroken.fence, hempty]; rfl
  generalize discardQueue p reason s = t at *
  refine ⟨⟨fun q k hk => ?_, fun q hq => ?_,
    fenceStands_of_markersEnd h.fence hfence fun q => ?_, ?_⟩, ?_, by rw [hself]⟩
  · rw [flightKind_congr hbus] at hk
    by_cases hq : q = p
    · subst hq
      rw [hself]
      obtain ⟨-, hnone⟩ | ⟨k', st, d, a, b, hflight, hjob⟩ := kept_eq (h.head q)
      · rw [hnone] at hk; cases hk
      · rw [hjob, ← hk, hflight]; rfl
    · rw [hother q hq]
      exact headKind_withoutMarkers (h.head q k hk)
  · rw [flightKind_congr hbus]
    exact (h.fits q hq).withoutMarkers (h.head q) (by rw [hother q hq]) (by rw [hother q hq])
  · by_cases hq : q = p
    · subst hq
      rw [hself]
      exact markersEnd_kept (h.head q)
    · rw [hother q hq]
      exact markersEnd_withoutMarkers _ _
  · rw [noSendAwaited, hbus]
    exact h.awaited
  · rw [flightKind_congr hbus, hself]
    obtain ⟨hnil, -⟩ | ⟨k, st, d, a, b, hflight, hjob⟩ := kept_eq (h.head p)
    · exact .inl hnil
    · exact .inr ⟨by rw [hflight]; rfl, by rw [hjob]; rfl⟩

theorem stands_discardQueue {s : State} {p : PortNo} (reason : BreakReason) (h : StandsOn {p}ᶜ s)
    (hstate : (s.port p).state = .opened) : Stands (discardQueue p reason s) := by
  have ht := discarded_discardQueue reason h
  exact ht.stands.all (stateFits_of_single (.inl (ht.state.trans hstate)) ht.queue)

theorem stands_discardForClose {s : State} {p : PortNo} (reason : BreakReason)
    (h : StandsOn {p}ᶜ s) {c : Closing} (hstate : (s.port p).state = .closing c) :
    Stands (discardForClose p reason s) := by
  have ht := discarded_discardQueue reason h
  rw [discardForClose_eq hstate]
  generalize discardQueue p reason s = t at ht ⊢
  generalize hd : addDiscard (discarded s p).length (lastDiscarded s p) c = d
  have hport := (port_modPort p p (fun x => { x with state := .closing d }) t).trans (if_pos rfl)
  have hkeeps : KeepsLayout {p}ᶜ t (modPort p (fun x => { x with state := .closing d }) t) :=
    keepsLayout_modPort_state rfl
  refine (hkeeps.standsOn ht.stands).all (stateFits_of_single (.inr ⟨d, by rw [hport]⟩) ?_)
  rw [hkeeps.flight, hport]
  exact ht.queue

end Sys2Proof.Machine
end

section
/-! PROOF. Coherence through the frames of the host: an item that joins, a fence that is placed, and
OPEN, CLOSE and TEND leave what stands, and the releases and closes that follow make that coherent
(R56, R65 to R87, R116). -/

namespace Sys2Proof.Machine

-- One proof is elaborated at a time: many at once would each hold a thread's stack.
set_option Elab.async false

/-! ### Changes of one port -/

/-- A change of one port's state alone, to one that the port's queue allows. -/
theorem KeepsLayout.coherent_but {p : PortNo} {s t : State} (h : KeepsLayout {p}ᶜ s t)
    (hs : Coherent s) (hfits : StateFits (flightKind t p) (t.port p))
    (hholds : ClosingHolds (t.port p)) : Coherent t := by
  obtain ⟨hstands, hsettled, hclosing⟩ := (coherent_iff s).mp hs
  refine (coherent_iff t).mpr ⟨(h.standsOn (hstands.mono (Set.subset_univ _))).all hfits,
    h.settled hsettled, fun q => ?_⟩
  by_cases hq : q = p
  · exact hq ▸ hholds
  · exact (hclosing q).congr (h.queue q) (h.state q hq)

theorem standsOn_of_coherent {s : State} (h : Coherent s) (on : Set PortNo) : StandsOn on s :=
  have ⟨hstands, _⟩ := (coherent_iff s).mp h
  hstands.mono (Set.subset_univ on)

theorem keepsLayout_withFlags (f : State → State) (s : State) :
    KeepsLayout Set.univ (f s) (withFlags f s) := by
  have hstate : ∀ x y : Port, (evaluatedPort x y).state = y.state := fun x y => by
    unfold evaluatedPort; split <;> rfl
  exact .of_queues (fun p => .of_eq (by rw [port_withFlags, evaluatedPort_queue]))
    (fun p _ => .inl (by rw [port_withFlags, hstate])) (by rw [withFlags_frame])
    (by rw [withFlags_frame])

theorem coherent_withFlags {f : State → State} {s : State} (h : Coherent (f s)) :
    Coherent (withFlags f s) := (keepsLayout_withFlags f s).coherent h

/-- The counters of the head are not told (R4). -/
theorem keepsLayout_setHeadCounters (p : PortNo) (f : Nat → Nat → Nat × Nat) (s : State) :
    KeepsLayout Set.univ s (setHeadCounters p f s) := by
  obtain h | ⟨k, st, d, a, b, rest, hqueue, -⟩ := setHeadCounters_cases p f s
  · rw [h]; exact .of_fields
  · rw [setHeadCounters_eq hqueue]
    refine keepsLayout_modPort ?_ rfl
    rw [hqueue]
    have hneg : ∀ i x y, ¬ Item.isMarkerOf i (.job k st d x y) = true := fun _ _ _ => nofun
    exact ⟨rfl, rfl, fun i => by
      rw [List.filter_cons_of_neg (hneg i _ _), List.filter_cons_of_neg (hneg i _ _)], fun _ => rfl⟩

/-- A job that is not in flight leaves the head of its port. -/
theorem stands_modPort_tail {p : PortNo} {s : State} {f : Port → Port} {k : JobKind} {st : Count}
    {d : List Byte} {a b : Nat} {rest : List Item} (h : StandsOn {p}ᶜ s)
    (hflight : flightKind s p = none) (hqueue : (s.port p).queue = .job k st d a b :: rest)
    (hf : (f (s.port p)).queue = rest) : StandsOn {p}ᶜ (modPort p f s) where
  head q k' hk := by
    have hq : q ≠ p := fun hq => by
      rw [hq] at hk
      cases hflight.symm.trans hk
    rw [port_modPort, if_neg hq]
    exact h.head q k' hk
  fits q hq := by
    rw [port_modPort, if_neg (show q ≠ p from hq)]
    exact h.fits q hq
  fence := fenceStands_of_markersEnd (l := []) h.fence (fun _ => rfl) fun q => by
    rw [port_modPort]
    split
    case isTrue hq =>
      rw [hq, hf, hqueue]
      exact markersEnd_job_tail k st d a b rest
    case isFalse => exact ⟨nofun, fun _ _ => rfl, fun _ _ => id⟩
  awaited := h.awaited

theorem port_settleHead {p : PortNo} {s : State} {it : Item} {rest : List Item}
    (h : (s.port p).queue = it :: rest) :
    (settleHead p s).port p =
      { s.port p with queue := rest, settled := it.stamp, dirty := true } := by
  rw [settleHead_eq h]
  exact port_setPort_same _ _ _

section
variable {p : PortNo} {s : State} {k : JobKind} {st : Count} {d : List Byte} {a b : Nat}
  {rest : List Item}

theorem stands_removeHead (h : StandsOn {p}ᶜ s) (hflight : flightKind s p = none)
    (hqueue : (s.port p).queue = .job k st d a b :: rest) : StandsOn {p}ᶜ (removeHead p s) := by
  have htail := stands_modPort_tail (f := fun x => { x with queue := rest }) h hflight hqueue rfl
  rw [removeHead_eq hqueue]
  exact KeepsLayout.standsOn .of_fields htail

theorem stands_settleHead (h : StandsOn {p}ᶜ s) (hflight : flightKind s p = none)
    (hqueue : (s.port p).queue = .job k st d a b :: rest) : StandsOn {p}ᶜ (settleHead p s) := by
  have htail := stands_modPort_tail
    (f := fun x => { x with queue := rest, settled := st, dirty := true }) h hflight hqueue rfl
  rw [settleHead_eq hqueue]
  exact KeepsLayout.standsOn .of_fields htail

end

/-! ### Items that join -/

theorem headKind_append {q : List Item} {k : JobKind} (h : headKind q = some k) (it : Item) :
    headKind (q ++ [it]) = some k := by
  obtain ⟨st, d, a, b, rest, rfl⟩ := headKind_eq_some.mp h
  rfl

/-- A port that admits is OPEN or FAULTED, and an item may join its queue (R55, R58). -/
theorem StateFits.append {f : Option JobKind} {x : Port} (h : StateFits f x)
    (hadmits : x.admits = true) (it : Item) :
    StateFits f { x with queue := x.queue ++ [it] } := by
  unfold StateFits at h ⊢
  dsimp only
  cases hx : x.state with
  | opened => trivial
  | faulted c =>
    rw [hx] at h
    obtain ⟨⟨k, hk⟩, hnone⟩ := h
    exact ⟨⟨k, headKind_append hk it⟩, hnone⟩
  | closed => rw [admits_eq_false (.inl hx)] at hadmits; cases hadmits
  | closing c => rw [admits_eq_false (.inr ⟨c, hx⟩)] at hadmits; cases hadmits

theorem closingHolds_of_admits {x : Port} (h : x.admits = true) : ClosingHolds x := fun c hc => by
  rw [admits_eq_false (.inr ⟨c, hc⟩)] at h; cases h

/-- The head of a queue stays when an item joins it, and is the new item in an empty one. -/
theorem head_append_any {q : List Item} {it : Item} {f : Item → Bool} (hit : f it = false) :
    (q ++ [it]).head?.any f = q.head?.any f := by
  cases q with
  | nil => exact hit
  | cons => rfl

/-- An item joins the queues of ports that are OPEN or FAULTED, and the fence table stands after
it. -/
theorem stands_of_joined {s t : State} (hs : Coherent s) {joins : PortNo → Bool} {it : Item}
    (hport : ∀ p, t.port p =
      if joins p then { s.port p with queue := (s.port p).queue ++ [it] } else s.port p)
    (hadmits : ∀ p, joins p = true → (s.port p).admits = true) (hbus : t.bus = s.bus)
    (hfence : ∀ i, FenceStands t i) : Stands t ∧ ∀ p, ClosingHolds (t.port p) := by
  obtain ⟨hstands, -, hholds⟩ := (coherent_iff s).mp hs
  refine ⟨⟨fun p k hk => ?_, fun p _ => ?_, hfence, ?_⟩, fun p => ?_⟩
  · have hhead := hstands.head p k (flightKind_congr hbus p ▸ hk)
    rw [hport]
    split
    case isTrue => exact headKind_append hhead it
    case isFalse => exact hhead
  · rw [flightKind_congr hbus, hport]
    split
    case isTrue hp => exact (hstands.fits p trivial).append (hadmits p hp) it
    case isFalse => exact hstands.fits p trivial
  · rw [noSendAwaited, hbus]
    exact hstands.awaited
  · rw [hport]
    split
    case isTrue hp =>
      exact closingHolds_of_admits (x := { s.port p with queue := _ }) (hadmits p hp)
    case isFalse => exact hholds p

/-- An item that is no marker of the entry joins queues without a change of its markers. -/
theorem markers_of_joined {s t : State} {joins : PortNo → Bool} {it : Item} {i : FenceNo}
    (hport : ∀ p, t.port p =
      if joins p then { s.port p with queue := (s.port p).queue ++ [it] } else s.port p)
    (hit : it.isMarkerOf i = false) (p : PortNo) :
    (t.port p).queue.filter (Item.isMarkerOf i) = (s.port p).queue.filter (Item.isMarkerOf i) ∧
      headIsMarker t i p = headIsMarker s i p := by
  rw [headIsMarker_eq, headIsMarker_eq, hport]
  split
  case isTrue =>
    refine ⟨?_, head_append_any hit⟩
    rw [List.filter_append, List.filter_singleton, hit]
    exact List.append_nil _
  case isFalse => exact ⟨rfl, rfl⟩

/-- A job joins the tail of a port that admits (R56). -/
theorem coherent_appendJob {s : State} (hs : Coherent s) {p : PortNo}
    (hadmits : (s.port p).admits = true) (k : JobKind) (st : Count) (d : List Byte) (a b : Nat) :
    Coherent (appendItem (.job k st d a b) s p) := by
  obtain ⟨hstands, hsettled, -⟩ := (coherent_iff s).mp hs
  have hport : ∀ q, (appendItem (.job k st d a b) s p).port q =
      if decide (q = p) then { s.port q with queue := (s.port q).queue ++ [.job k st d a b] }
      else s.port q := fun q => by
    rw [port_appendItem]
    by_cases hq : q = p
    · subst hq; simp
    · simp [hq]
  have hmarkers := fun i => markers_of_joined (i := i) hport rfl
  have hfence : ∀ i, (appendItem (.job k st d a b) s p).fence i = s.fence i := fun i => by
    rw [appendItem_eq]; rfl
  have hjoined := stands_of_joined hs hport (fun q hq => of_decide_eq_true hq ▸ hadmits)
    (by rw [appendItem_eq]; rfl) fun i => (hstands.fence i).congr (hfence i)
      (fun q => (hmarkers i q).1) fun q => (hmarkers i q).2.trans
  exact (coherent_iff _).mpr ⟨hjoined.1, fun i => (hsettled i).congr (hfence i) fun q =>
    (hmarkers i q).2.symm.trans, hjoined.2⟩

/-! ### Placing a fence -/

/-- Some member of a coherent entry has yet to arrive (R118). -/
theorem exists_member_not_head {s : State} {i : FenceNo} (hs : FenceStands s i)
    (hsettled : FenceSettled s i) {g : Gathering} (hg : s.fence i = .gathering g) :
    ∃ p : PortNo, g.members.getLsbD p.val = true ∧ headIsMarker s i p = false := by
  obtain ⟨hincomplete, hjoined⟩ := hsettled g hg
  by_contra hnone
  push Not at hnone
  refine hincomplete (portSet_eq_iff.mpr fun p => Bool.eq_iff_iff.mpr ⟨fun hp => ?_, fun hp =>
    hjoined p hp (by simpa using hnone p hp)⟩)
  obtain ⟨g', hg', hmember⟩ := hs.member_of_head (hs.arrived g hg p hp)
  obtain rfl := FenceEntry.gathering.inj (hg.symm.trans hg')
  exact hmember

/-- An entry released next has its marker at the head of every member. -/
theorem heads_of_nextRelease {s : State} (hs : Stands s) {i : FenceNo}
    (h : nextRelease s = some i) :
    ∃ g, (arrive s).fence i = .gathering g ∧
      ∀ p : PortNo, g.members.getLsbD p.val = true → headIsMarker (arrive s) i p = true :=
  have ⟨hcomplete, _⟩ := nextRelease_eq_some_iff.mp h
  heads_of_complete ((stands_arrive hs).fence i) hcomplete

/-- An entry that a coherent state has is not released next unless a marker has come to a head. -/
theorem not_nextRelease {s t : State} (hs : Coherent s) (ht : Stands t) {i : FenceNo}
    (hfence : ∀ g, t.fence i = .gathering g → ∃ a, s.fence i = .gathering { g with arrived := a })
    (hhead : ∀ p, headIsMarker t i p = true → headIsMarker s i p = true) :
    nextRelease t ≠ some i := by
  intro hnext
  obtain ⟨hstands, hsettled, -⟩ := (coherent_iff s).mp hs
  obtain ⟨g, hg, hall⟩ := heads_of_nextRelease ht hnext
  obtain ⟨a, ha, -⟩ := gathering_of_arrive hg
  obtain ⟨b, hb⟩ := hfence _ ha
  obtain ⟨p, hp, hnot⟩ := exists_member_not_head (hstands.fence i) (hsettled i) hb
  have hmark := hall p hp
  rw [headIsMarker_arrive] at hmark
  rw [hhead p hmark] at hnot
  cases hnot

theorem coherent_settleFences {s : State} (hs : Stands s) (hnone : nextRelease s = none)
    (hholds : ∀ p, ClosingHolds (s.port p)) : Coherent (settleFences s) := by
  refine (coherent_iff _).mpr ⟨stands_settleFences hs, fenceSettled_settleFences s, fun p => ?_⟩
  rw [settleFences_of_none hnone, port_arrive]
  exact hholds p

theorem fenceStands_placed {s : State} (hs : Coherent s) {i : FenceNo} (hfree : s.fence i = .free)
    {m : PortSet} (hmin : 2 ≤ (members m).length) (stamp : Count) (j : FenceNo) :
    FenceStands (placed stamp m i s) j := by
  obtain ⟨hstands, -, -⟩ := (coherent_iff s).mp hs
  have hport := port_placed stamp m i s
  have hfence := fence_placed stamp m i s j
  by_cases hj : j = i
  · subst hj
    rw [if_pos rfl] at hfence
    refine ⟨fun p => ?_, fun g hg => ?_, fun g hg p hp => ?_⟩
    · have hold := (hstands.fence j).markers p
      rw [hfree] at hold
      rw [hfence, hport, entryMarkers]
      split
      case isTrue =>
        rw [List.filter_append, hold, List.filter_cons_of_pos (isMarkerOf_self stamp j)]; rfl
      case isFalse => exact hold
    · obtain rfl := FenceEntry.gathering.inj (hfence.symm.trans hg)
      exact hmin
    · obtain rfl := FenceEntry.gathering.inj (hfence.symm.trans hg)
      simp at hp
  · rw [if_neg hj] at hfence
    have hmarkers := markers_of_joined (i := j) hport
      (beq_eq_false_iff_ne.mpr fun h => hj h.symm)
    exact (hstands.fence j).congr hfence (fun p => (hmarkers p).1) fun p => (hmarkers p).2.trans

/-- The release of the fence just placed gives each queue back as it was. -/
theorem queue_release_placed {s : State} {stamp : Count} {m : PortSet} {i : FenceNo}
    (hs : FenceStands s i) (hfree : s.fence i = .free)
    (hv : Stands (placed stamp m i s)) (hnext : nextRelease (placed stamp m i s) = some i)
    (p : PortNo) :
    ((releaseFence i (arrive (placed stamp m i s))).port p).queue = (s.port p).queue ∧
      ((releaseFence i (arrive (placed stamp m i s))).port p).state = (s.port p).state := by
  obtain ⟨g, hg, hall⟩ := heads_of_nextRelease hv hnext
  obtain ⟨hqueue, hstate⟩ := queue_releaseFence ((stands_arrive hv).fence i) hg hall p
  have hnone := hs.markers p
  rw [hfree] at hnone
  have hself := withoutMarkers_eq_self hnone
  rw [port_arrive, port_placed] at hqueue hstate
  rw [hqueue, hstate]
  split
  case isTrue =>
    refine ⟨?_, rfl⟩
    have hlast : withoutMarkers [i] [.marker stamp i] = [] :=
      List.filter_cons_of_neg (by simp [isMarkerOf_self])
    rw [withoutMarkers, List.filter_append]
    exact (congrArg₂ _ hself hlast).trans (List.append_nil _)
  case isFalse => exact ⟨hself, rfl⟩

/-- The only fence that the placing of a fence may release is that fence itself, and its release
gives the queues back as they were (R116). -/
theorem coherent_placeFence {s : State} (hs : Coherent s) {m : PortSet}
    (hmin : 2 ≤ (members m).length) (hadmits : ∀ p ∈ members m, (s.port p).admits = true)
    (stamp : Count) : Coherent (placeFence stamp m s) := by
  obtain ⟨hstands, -, hclosing⟩ := (coherent_iff s).mp hs
  cases hplace : freeFence s with
  | none => rw [placeFence, hplace]; exact hs
  | some i =>
    obtain ⟨hfree, -⟩ := freeFence_eq_some_iff.mp hplace
    rw [placeFence_eq hplace]
    have hport := port_placed stamp m i s
    obtain ⟨hv, hholds⟩ := stands_of_joined hs hport
      (fun p hp => hadmits p ((mem_members m p).mpr hp)) (by rw [placed_frame])
      (fenceStands_placed hs hfree hmin stamp)
    cases hnext : nextRelease (placed stamp m i s) with
    | none => exact coherent_settleFences hv hnext hholds
    | some j =>
      have hj : j = i := by
        by_contra hne
        have hmarkers := markers_of_joined (i := j) hport
          (beq_eq_false_iff_ne.mpr fun h => hne h.symm)
        refine not_nextRelease hs hv (fun g hg => ⟨g.arrived, ?_⟩)
          (fun p => (hmarkers p).2.symm.trans) hnext
        rwa [fence_placed, if_neg hne] at hg
      subst hj
      have hqueue := queue_release_placed (hstands.fence j) hfree hv hnext
      obtain ⟨g, hg, hall⟩ := heads_of_nextRelease hv hnext
      have hu := stands_releaseFence (stands_arrive hv) hg hall
      rw [settleFences_of_some hnext]
      refine coherent_settleFences hu ?_ fun p =>
        (hclosing p).congr (.of_eq (hqueue p).1) (.inl (hqueue p).2)
      rw [Option.eq_none_iff_forall_ne_some]
      intro k
      refine not_nextRelease hs hu (fun g' hg' => ?_) fun p hmark => ?_
      · rw [fence_releaseFence] at hg'
        split at hg'
        case isTrue => cases hg'
        case isFalse hk =>
          obtain ⟨a, ha, -⟩ := gathering_of_arrive hg'
          rw [fence_placed, if_neg hk] at ha
          exact ⟨a, ha⟩
      · rw [headIsMarker_eq, (hqueue p).1] at hmark
        rwa [headIsMarker_eq]

/-! ### OPEN, CLOSE and TEND -/

theorem stateFits_closing_finish {f : Option JobKind} {x : Port} {c : Closing}
    (hstate : x.state = .closing c) (hmode : c.mode = .finish) : StateFits f x := by
  rw [StateFits, hstate]
  intro hdiscard
  cases hmode.symm.trans hdiscard

theorem stateFits_opened {f : Option JobKind} {x : Port} (h : x.state = .opened) :
    StateFits f x := by
  rw [StateFits, h]; trivial

theorem closingHolds_opened {x : Port} (h : x.state = .opened) : ClosingHolds x := fun c hc => by
  rw [h] at hc; cases hc

theorem coherent_openPort {s : State} (hs : Coherent s) (p : PortNo) (stamp : Count)
    (params : OpenParams) : Coherent (openPort p stamp params s) := by
  have hport := (port_openPort p stamp params s p).trans (if_pos rfl)
  have hkeeps : KeepsLayout {p}ᶜ s (openPort p stamp params s) := by
    rw [openPort_eq]
    exact (keepsLayout_modPort_state (f := fun y => { y with
      state := .opened, params := params, busyWait := none, settled := stamp, dirty := true })
      rfl).trans .of_fields
  exact hkeeps.coherent_but hs (stateFits_opened (by rw [hport]))
    (closingHolds_opened (by rw [hport]))

theorem keepsLayout_beginClose (p : PortNo) (mode : CloseMode) (stamp : Count) (s : State) :
    KeepsLayout {p}ᶜ s (beginClose p mode stamp s) := by
  exact KeepsLayout.trans .of_fields (keepsLayout_modPort_state
    (f := fun x => { x with state := .closing ⟨mode, stamp, 0, none⟩ })
    (s := takeReservation s) rfl)

theorem keepsLayout_stopBusyWait (p : PortNo) (s : State) :
    KeepsLayout Set.univ s (stopBusyWait p s) := keepsLayout_modPort (.of_eq rfl) rfl

/-- A close in DISCARD mode from a state that differs from a coherent one by the state of the port
alone. -/
theorem stands_discardForClose_of_keeps {s t : State} {p : PortNo} (hs : Coherent s)
    (h : KeepsLayout {p}ᶜ s t) (reason : BreakReason) {c : Closing}
    (hstate : (t.port p).state = .closing c) : Stands (discardForClose p reason t) :=
  stands_discardForClose reason (h.standsOn (standsOn_of_coherent hs _)) hstate

theorem coherent_closeEffect {s : State} (hs : Coherent s) (p : PortNo) (mode : CloseMode)
    (stamp : Count) : Coherent (closeEffect p mode stamp s) := by
  have hdiscard := fun reason => stands_discardForClose_of_keeps hs
    (keepsLayout_beginClose p .discard stamp s) reason (by rw [port_beginClose])
  cases hstate : (s.port p).state with
  | closed => unfold closeEffect; rw [hstate]; exact hs
  | opened =>
    cases mode with
    | finish =>
      rw [closeEffect_opened_finish stamp hstate]
      have hkeeps := keepsLayout_beginClose p .finish stamp s
      have hport := port_beginClose p .finish stamp s
      obtain ⟨-, hsettled, -⟩ := (coherent_iff s).mp hs
      exact coherent_closeDonePorts none
        ((hkeeps.standsOn (standsOn_of_coherent hs _)).all
          (stateFits_closing_finish (by rw [hport]) rfl))
        (hkeeps.settled hsettled)
    | discard =>
      rw [closeEffect_opened_discard stamp hstate]
      exact coherent_afterHeads none ((keepsLayout_stopBusyWait p _).standsOn (hdiscard _))
  | faulted f =>
    rw [closeEffect_faulted stamp hstate]
    exact coherent_afterHeads _ (hdiscard _)
  | closing c =>
    cases mode with
    | finish => unfold closeEffect; rw [hstate]; exact hs
    | discard =>
      rw [closeEffect_closing_discard stamp hstate]
      refine coherent_afterHeads none ((keepsLayout_stopBusyWait p _).standsOn ?_)
      exact stands_discardForClose_of_keeps hs (keepsLayout_modPort_state rfl) _
        (by rw [port_modPort, if_pos rfl])

/-- TEND on a FAULTED port opens it; its head is a job that is not in flight (R84 to R87). -/
theorem coherent_tendEffect {s : State} (hs : Coherent s) {p : PortNo} {f : FaultCause}
    (hstate : (s.port p).state = .faulted f) (a : TendAction) : Coherent (tendEffect p a s) := by
  have hcall : ∀ t, Coherent t → Coherent (callArbiter t) := fun t =>
    (KeepsLayout.of_fields (s := t)).coherent
  have hport : (setPortState p .opened s).port p = { s.port p with state := .opened } :=
    port_setPortState_same p .opened s
  have hkeeps : KeepsLayout {p}ᶜ s (setPortState p .opened s) := keepsLayout_modPort_state rfl
  have hstands := hkeeps.standsOn (standsOn_of_coherent hs _)
  have hopen : ((setPortState p .opened s).port p).state = .opened := by rw [hport]
  have hfits := (standsOn_of_coherent hs Set.univ).fits p trivial
  rw [StateFits, hstate] at hfits
  obtain ⟨⟨k, hk⟩, hflight⟩ := hfits
  unfold tendEffect
  refine hcall _ ?_
  cases a with
  | retry =>
    exact (keepsLayout_setHeadCounters p _ _).coherent
      (hkeeps.coherent_but hs (stateFits_opened hopen) (closingHolds_opened hopen))
  | skip =>
    obtain ⟨st, d, x, y, rest, hqueue⟩ := headKind_eq_some.mp hk
    have hqueue' : ((setPortState p .opened s).port p).queue = .job k st d x y :: rest := by
      rw [hport]; exact hqueue
    refine coherent_afterHeads none
      ((stands_settleHead hstands ?_ hqueue').all (stateFits_opened ?_))
    · rw [hkeeps.flight, hflight]
    · rw [port_settleHead hqueue']
      exact hopen
  | flush => exact coherent_afterHeads none (stands_discardQueue .flush hstands hopen)

/-! ### Frames of the uplink -/

/-- If `s` is coherent, so is `t`. -/
def KeepsCoherence (s t : State) : Prop := Coherent s → Coherent t

theorem KeepsCoherence.trans {s t u : State} (h : KeepsCoherence s t) (h' : KeepsCoherence t u) :
    KeepsCoherence s u := h' ∘ h

theorem coherent_write {s t : State} (hs : Coherent s) (hports : t.ports = s.ports := by rfl)
    (hfences : t.fences = s.fences := by rfl) (hbus : t.bus = s.bus := by rfl) : Coherent t :=
  (KeepsLayout.of_fields hports hfences hbus).coherent hs

theorem keepsCoherence_write {s t : State} (hports : t.ports = s.ports := by rfl)
    (hfences : t.fences = s.fences := by rfl) (hbus : t.bus = s.bus := by rfl) :
    KeepsCoherence s t := fun hs => coherent_write hs hports hfences hbus

theorem KeepsCoherence.withFlags {f : State → State} {s : State} (h : KeepsCoherence s (f s)) :
    KeepsCoherence s (withFlags f s) := fun hs => coherent_withFlags (h hs)

theorem keepsCoherence_holdIfRunning (c : HoldCause) (s : State) :
    KeepsCoherence s (holdIfRunning c s) := by
  obtain ⟨-, h⟩ | ⟨-, -, h⟩ := holdIfRunning_cases c s
  · rw [h]; exact keepsCoherence_write
  · rw [h]; exact id

theorem keepsCoherence_counted {stamp : Count} {ty : Byte} {verdict : State → Verdict}
    {effect : State → State} {s : State}
    (h : verdict s = .accept → KeepsCoherence s (effect s)) :
    KeepsCoherence s (counted stamp ty verdict effect s) := by
  have hadvance : ∀ u, KeepsCoherence u (advanceAC u) := fun u => keepsCoherence_write
  obtain h' | ⟨-, -, h'⟩ | h' | h' := counted_cases stamp ty verdict effect s
  · rw [h']; exact keepsCoherence_write
  · obtain ⟨hv, h''⟩ | ⟨r, -, -, h''⟩ | ⟨d, h''⟩ := admission_cases stamp ty (verdict s) effect s
    · rw [h', h'']; exact (h hv).withFlags.trans (hadvance _)
    · rw [h', h'']; exact keepsCoherence_write
    · rw [h', h'']; exact keepsCoherence_write
  · rw [h']; exact keepsCoherence_write
  · rw [h']; exact keepsCoherence_write

theorem keepsCoherence_onPort {f : PortNo → State → State} {s : State}
    (h : ∀ p, KeepsCoherence s (f p s)) (port : Byte) : KeepsCoherence s (onPort port f s) := by
  unfold onPort
  split
  · exact id
  · exact h _

theorem keepsCoherence_jobEffect {k : JobKind} {stamp : Count} {port : Byte} {data : List Byte}
    {s : State} (h : jobVerdict port s = .accept) :
    KeepsCoherence s (jobEffect k stamp port data s) := by
  obtain ⟨p, hp, hadmits, -⟩ := jobVerdict_accept h
  intro hs
  rw [jobEffect, onPort_of_port hp]
  exact coherent_appendJob hs hadmits k stamp data 0 0

theorem two_le_members_of_accept {m : PortSet} {s : State} (h : fenceVerdict m s = .accept) :
    2 ≤ (members m).length := by
  unfold fenceVerdict at h
  split_ifs at h with hmembers
  simp only [Bool.or_eq_true, not_or, decide_eq_true_eq, Nat.not_lt] at hmembers
  exact hmembers.1

theorem keepsCoherence_placeFence {m : PortSet} {s : State} (h : fenceVerdict m s = .accept)
    (stamp : Count) : KeepsCoherence s (placeFence stamp m s) := fun hs =>
  coherent_placeFence hs (two_le_members_of_accept h)
    (fun p hp => ((fenceVerdict_accept h).1 p hp).1) stamp

theorem keepsCoherence_markEffect (stamp : Count) (echo : Byte) (s : State) :
    KeepsCoherence s (markEffect stamp echo s) := by
  rw [markEffect_eq]
  exact keepsCoherence_write

theorem keepsCoherence_closeFrameEffect (stamp : Count) (port mode : Byte) (s : State) :
    KeepsCoherence s (closeFrameEffect stamp port mode s) := by
  unfold closeFrameEffect
  split
  · exact id
  · exact keepsCoherence_onPort (fun p hs => coherent_closeEffect hs p _ stamp) port

theorem keepsCoherence_setupEffect (code reserve enable : Byte) (s : State) :
    KeepsCoherence s (setupEffect code reserve enable s) := by
  rw [setupEffect, writeScanEnable_eq]
  exact keepsCoherence_write

theorem keepsCoherence_tend (port action : Byte) (s : State) :
    KeepsCoherence s (tend port action s) := by
  unfold tend
  split
  · split
    case h_1 hstate =>
      exact KeepsCoherence.withFlags fun hs => coherent_tendEffect hs hstate _
    case h_2 => exact keepsCoherence_write
  · exact keepsCoherence_write

theorem keepsCoherence_answerQuery (tag kind argHi argLo : Byte) (s : State) :
    KeepsCoherence s (answerQuery tag kind argHi argLo s) := by
  unfold answerQuery
  split
  · exact keepsCoherence_write
  · split <;> exact keepsCoherence_write
  · split <;> exact keepsCoherence_write
  · split
    · exact keepsCoherence_write
    · split <;> exact keepsCoherence_write
  · exact keepsCoherence_write
  · exact keepsCoherence_write

theorem keepsCoherence_answerRecall (rc : Count) (s : State) :
    KeepsCoherence s (answerRecall rc s) := by
  unfold answerRecall
  split <;> exact keepsCoherence_write

theorem keepsCoherence_forSlot {f : State → State} {s : State} (h : KeepsCoherence s (f s)) :
    KeepsCoherence s (forSlot f s) := by
  unfold forSlot
  split
  · exact keepsCoherence_write
  · exact h

theorem keepsCoherence_resume (mode : Byte) (count : Count) (s : State) :
    KeepsCoherence s (resume mode count s) := by
  unfold resume
  split <;> exact keepsCoherence_write

/-- With every port as after reset and every fence entry FREE nothing is left to agree on but the
bus. -/
theorem coherent_of_reset {s : State} (hport : ∀ p, s.port p = resetPort)
    (hfence : ∀ i, s.fence i = .free) (hflight : ∀ p, flightKind s p = none)
    (hawaited : noSendAwaited s = true) : Coherent s := by
  have h : KeepsLayout Set.univ State.reset s :=
    ⟨fun p => (hflight p).trans (flightKind_congr (s := State.reset) rfl p).symm, fun _ => hawaited,
      fun i => (hfence i).trans (fence_reset i).symm, fun p => .of_eq (by rw [hport, port_reset]),
      fun p _ => .inl (by rw [hport, port_reset])⟩
  obtain ⟨-, -, -, -, -, hreset, -⟩ := resetKeepsTheLaws
  exact h.coherent hreset

theorem coherent_restartEffect (s : State) : Coherent (restartEffect s) := by
  have hbus : (restartEffect s).bus = abandonedBus s := rfl
  have hnone : (∀ p, flightKind (restartEffect s) p = none) ∧
      noSendAwaited (restartEffect s) = true := by
    unfold flightKind noSendAwaited
    rw [hbus, abandonedBus]
    cases s.bus <;> exact ⟨fun _ => rfl, rfl⟩
  exact coherent_of_reset (fun p => Vector.getElem_replicate _)
    (fun i => Vector.getElem_replicate _) hnone.1 hnone.2

theorem keepsCoherence_serve (f : HostFrame) (s : State) : KeepsCoherence s (serve f s) := by
  match f with
  | .job k stamp port data => exact keepsCoherence_counted keepsCoherence_jobEffect
  | .fence stamp m => exact keepsCoherence_counted fun h => keepsCoherence_placeFence h stamp
  | .mark stamp echo => exact keepsCoherence_counted fun _ => keepsCoherence_markEffect stamp echo s
  | .openPort stamp port params =>
    exact keepsCoherence_counted fun _ =>
      keepsCoherence_onPort (fun p hs => coherent_openPort hs p stamp params) port
  | .close stamp port mode =>
    exact keepsCoherence_counted fun _ => keepsCoherence_closeFrameEffect stamp port mode s
  | .setup stamp code reserve enable =>
    exact keepsCoherence_counted fun _ => keepsCoherence_setupEffect code reserve enable s
  | .fill => exact id
  | .resume mode count => exact keepsCoherence_resume mode count s
  | .restart => exact fun _ => coherent_restartEffect s
  | .tend port action => exact keepsCoherence_tend port action s
  | .query tag kind argHi argLo =>
    exact keepsCoherence_forSlot (keepsCoherence_answerQuery tag kind argHi argLo s)
  | .recall rc => exact keepsCoherence_forSlot (keepsCoherence_answerRecall rc s)

end Sys2Proof.Machine
end

section
/-! PROOF. Coherence through the outcomes of transactions and the decision of the arbiter, and so
through every step (R90, R98 to R110, R131 to R133). -/

namespace Sys2Proof.Machine

-- One proof is elaborated at a time: many at once would each hold a thread's stack.
set_option Elab.async false

/-! ### The job whose transaction has ended -/

/-- What an outcome of a job meets: the transaction of port `p` is gone, its job still heads the
port, and all else is coherent (R110). -/
structure JobLeft (p : PortNo) (s : State) : Prop where
  stands : StandsOn {p}ᶜ s
  settled : ∀ i, FenceSettled s i
  holds : ∀ q, ClosingHolds (s.port q)
  idle : s.bus = .idle
  head : ∃ k, headKind (s.port p).queue = some k
  state : (s.port p).state = .opened ∨
    ∃ c, (s.port p).state = .closing c ∧ (c.mode = .discard → (s.port p).queue.length = 1)

theorem JobLeft.of_keeps {p : PortNo} {s t : State} (h : JobLeft p s)
    (hkeeps : KeepsLayout Set.univ s t) (hbus : t.bus = s.bus) : JobLeft p t where
  stands := (hkeeps.restrict _).standsOn h.stands
  settled := hkeeps.settled h.settled
  holds q := (h.holds q).congr (hkeeps.queue q) (hkeeps.state q trivial)
  idle := hbus.trans h.idle
  head := by rw [(hkeeps.queue p).head]; exact h.head
  state := by
    obtain hsame | ⟨-, hnil⟩ := hkeeps.state p trivial
    · rw [hsame, (hkeeps.queue p).length]; exact h.state
    · obtain ⟨k, hk⟩ := h.head
      rw [hnil] at hk
      cases hk

theorem JobLeft.write {p : PortNo} {s t : State} (h : JobLeft p s)
    (hports : t.ports = s.ports := by rfl) (hfences : t.fences = s.fences := by rfl)
    (hbus : t.bus = s.bus := by rfl) : JobLeft p t :=
  h.of_keeps (.of_fields hports hfences hbus) hbus

/-- A transaction ends: its record goes, and the job in flight is left at the head of its port. -/
theorem jobLeft_dropTransaction {s : State} (hs : Coherent s) {p : PortNo} {k : JobKind}
    (hflight : flightKind s p = some k) : JobLeft p (dropTransaction s) := by
  obtain ⟨hstands, hsettled, hholds⟩ := (coherent_iff s).mp hs
  have hnone : ∀ q, flightKind (dropTransaction s) q = none := flightKind_idle rfl
  have hhead := hstands.head p k hflight
  have hfence : ∀ i, FenceStands (dropTransaction s) i := fun i =>
    (hstands.fence i).congr rfl (fun _ => rfl) fun _ => id
  refine ⟨⟨fun q k' hk' => ?_, fun q hq => ?_, hfence, rfl⟩, hsettled, hholds, rfl,
    ⟨k, hhead⟩, ?_⟩
  · cases (hnone q).symm.trans hk'
  · have hfits := hstands.fits q trivial
    rw [flightKind_other hflight hq] at hfits
    rw [hnone]
    exact hfits
  · have hfits := hstands.fits p trivial
    rw [port_dropTransaction]
    unfold StateFits at hfits
    cases hstate : (s.port p).state with
    | opened => exact .inl rfl
    | closed =>
      rw [hstate] at hfits
      have hnil : (s.port p).queue = [] := hfits
      rw [hnil] at hhead
      cases hhead
    | faulted f =>
      rw [hstate] at hfits
      cases hfits.2.symm.trans hflight
    | closing c =>
      rw [hstate] at hfits
      refine .inr ⟨c, rfl, fun hmode => ?_⟩
      obtain hnil | ⟨-, hlength⟩ := hfits hmode
      · rw [hnil] at hhead; cases hhead
      · exact hlength

section
variable {p : PortNo} {s : State}

/-- The head leaves after its outcome, and the port stands with what is left in its queue. -/
theorem JobLeft.job (h : JobLeft p s) :
    ∃ k st d a b rest, (s.port p).queue = .job k st d a b :: rest ∧
      ∀ c, (s.port p).state = .closing c → c.mode = .discard → rest = [] := by
  obtain ⟨k, hk⟩ := h.head
  obtain ⟨st, d, a, b, rest, hqueue⟩ := headKind_eq_some.mp hk
  refine ⟨k, st, d, a, b, rest, hqueue, fun c hc hmode => ?_⟩
  obtain hopen | ⟨c', hc', hlength⟩ := h.state
  · cases hopen.symm.trans hc
  · obtain rfl := PortState.closing.inj (hc'.symm.trans hc)
    have hone := hlength hmode
    rw [hqueue] at hone
    exact List.length_eq_zero_iff.mp (Nat.succ.inj hone)

theorem coherent_jobFinishes (h : JobLeft p s) : Coherent (jobFinishes p s) := by
  obtain ⟨k, st, d, a, b, rest, hqueue, hrest⟩ := h.job
  have hport := port_settleHead hqueue
  refine coherent_afterHeads none
    ((stands_settleHead h.stands (flightKind_idle h.idle p) hqueue).all ?_)
  obtain hopen | ⟨c, hc, -⟩ := h.state
  · exact stateFits_opened (by rw [hport]; exact hopen)
  · rw [StateFits, hport]
    dsimp only
    rw [hc]
    exact fun hmode => .inl (hrest c hc hmode)

/-- The job that waits at the head of a port CLOSING in DISCARD mode is its last item (R76). -/
theorem coherent_closeDonePorts_tail (h : JobLeft p s) {f : Port → Port}
    (hqueue : (f (s.port p)).queue = []) (hstate : ∃ c, (f (s.port p)).state = .closing c)
    {k : JobKind} {st : Count} {d : List Byte} {a b : Nat}
    (hjob : (s.port p).queue = [.job k st d a b]) :
    Coherent (closeDonePorts none
      { modPort p f s with free := s.free + 1, decisionDue := true }) := by
  have hport := (port_modPort p p f s).trans (if_pos rfl)
  have htail := stands_modPort_tail h.stands (flightKind_idle h.idle p) hjob hqueue
  have hstands := htail.all (stateFits_of_single (.inr (by rw [hport]; exact hstate))
    (.inl (by rw [hport]; exact hqueue)))
  have hkeeps : KeepsLayout Set.univ (modPort p f s)
    { modPort p f s with free := s.free + 1, decisionDue := true } := .of_fields
  refine coherent_closeDonePorts none (hkeeps.standsOn hstands) (hkeeps.settled fun i =>
    (h.settled i).congr rfl fun q hmark => ?_)
  rw [headIsMarker_eq, port_modPort] at hmark
  split at hmark
  case isTrue => rw [hqueue] at hmark; cases hmark
  case isFalse => rwa [headIsMarker_eq]

theorem coherent_jobWaits (h : JobLeft p s) : Coherent (jobWaits p s) := by
  obtain ⟨k, st, d, a, b, rest, hqueue, hrest⟩ := h.job
  obtain ⟨hwaits, hdiscards⟩ := waitUnderPortState p s
  have hself : StateFits (flightKind s p) (s.port p) → Coherent s := fun hfits =>
    (coherent_iff s).mpr ⟨h.stands.all hfits, h.settled, h.holds⟩
  obtain hopen | ⟨c, hc, -⟩ := h.state
  · rw [hwaits fun c hc => by cases hopen.symm.trans hc]
    exact hself (stateFits_opened hopen)
  · cases hmode : c.mode with
    | finish =>
      rw [hwaits fun c' hc' => by rw [← PortState.closing.inj (hc.symm.trans hc'), hmode]]
      exact hself (stateFits_closing_finish hc hmode)
    | discard =>
      obtain rfl := hrest c hc hmode
      rw [hdiscards c _ [] hc hmode hqueue]
      exact coherent_closeDonePorts_tail h rfl ⟨_, rfl⟩ hqueue

theorem coherent_jobFailsPort (h : JobLeft p s) (cause : FaultCause) :
    Coherent (jobFailsPort p cause s) := by
  obtain ⟨k, st, d, a, b, rest, hqueue, -⟩ := h.job
  have hflight := flightKind_idle h.idle p
  obtain hopen | ⟨c, hc, -⟩ := h.state
  · have hfails : jobFailsPort p cause s = setPortState p (.faulted cause) s := by
      rw [jobFailsPort, hopen]
    have hport := port_setPortState_same p (.faulted cause) s
    have hkeeps : KeepsLayout {p}ᶜ s (setPortState p (.faulted cause) s) :=
      keepsLayout_modPort_state rfl
    rw [hfails]
    refine (coherent_iff _).mpr ⟨(hkeeps.standsOn h.stands).all ?_, hkeeps.settled h.settled,
      fun q => ?_⟩
    · rw [StateFits, hport, hkeeps.flight]
      exact ⟨h.head, hflight⟩
    · by_cases hq : q = p
      · subst hq
        rw [hport]
        nofun
      · exact (h.holds q).congr (hkeeps.queue q) (hkeeps.state q hq)
  · have hfails : jobFailsPort p cause s = afterHeads (some (p, .failedWhileClosing))
        (discardForClose p .failedWhileClosing (removeHead p s)) := by
      rw [jobFailsPort, hc]
    rw [hfails]
    refine coherent_afterHeads _ (stands_discardForClose _
      (stands_removeHead h.stands hflight hqueue) (c := c) ?_)
    rw [port_removeHead hqueue]
    exact hc

/-- The job fails with its report on the reservation (R108). -/
theorem coherent_jobFails (h : JobLeft p s) (k : JobKind) (cause : FaultCause) :
    Coherent (jobFails k p cause s) := coherent_jobFailsPort h.write cause

theorem JobLeft.setHeadCounters (h : JobLeft p s) (f : Nat → Nat → Nat × Nat) :
    JobLeft p (setHeadCounters p f s) :=
  h.of_keeps (keepsLayout_setHeadCounters p f s) (by
    obtain hself | ⟨k, st, d, a, b, rest, -, hset⟩ := setHeadCounters_cases p f s
    · rw [hself]
    · rw [hset]; rfl)

end

/-! ### Outcomes of transactions -/

/-- A transaction in flight: it is being sent or awaited (R90). -/
def TxnInFlight (t : Transaction) (s : State) : Prop :=
  s.bus = .sending t ∨ ∃ d, s.bus = .awaiting t d

/-- The kind of the job that a transaction carries for port `p` (R90). -/
def Transaction.jobFor (t : Transaction) (p : PortNo) : Option JobKind :=
  match t.kind with
  | .job k => if t.port = p then some k else none
  | .poll => none

theorem TxnInFlight.flightKind_eq {t : Transaction} {s : State} (h : TxnInFlight t s) (p : PortNo) :
    flightKind s p = t.jobFor p := by
  obtain ⟨kind, q, a, r⟩ := t
  unfold flightKind
  obtain h | ⟨d, h⟩ := h
  · rw [h]; cases kind <;> rfl
  · rw [h]; cases kind <;> rfl

/-- Sending or awaited, a transaction carries its job (R90). -/
theorem flightKind_eq_of_txn {t : Transaction} {s u : State} (h : TxnInFlight t s)
    (h' : TxnInFlight t u) (p : PortNo) : flightKind u p = flightKind s p := by
  rw [h.flightKind_eq, h'.flightKind_eq]

theorem TxnInFlight.flightKind_job {t : Transaction} {s : State} (h : TxnInFlight t s)
    {k : JobKind} (hk : t.kind = .job k) : flightKind s t.port = some k := by
  rw [h.flightKind_eq, Transaction.jobFor, hk]
  exact if_pos rfl

/-- A poll is no job in flight (R128). -/
theorem TxnInFlight.flightKind_poll {t : Transaction} {s : State} (h : TxnInFlight t s)
    (hk : t.kind = .poll) (p : PortNo) : flightKind s p = none := by
  rw [h.flightKind_eq, Transaction.jobFor, hk]

/-- A change of the bus from no job in flight to none, with nothing awaited that is a SEND. -/
theorem keepsCoherence_of_noJob {s t : State} (hs : ∀ p, flightKind s p = none)
    (ht : ∀ p, flightKind t p = none) (hawaited : noSendAwaited t = true)
    (hports : t.ports = s.ports := by rfl) (hfences : t.fences = s.fences := by rfl) :
    KeepsCoherence s t :=
  (KeepsLayout.of_bus (fun p => (ht p).trans (hs p).symm) (fun _ => hawaited) hports
    hfences).coherent

section
variable {t : Transaction} {s : State}

theorem jobLeft_of_txn (h : TxnInFlight t s) (hs : Coherent s) {k : JobKind}
    (hk : t.kind = .job k) : JobLeft t.port (dropTransaction s) :=
  jobLeft_dropTransaction hs (h.flightKind_job hk)

theorem coherent_attemptFails (h : TxnInFlight t s) (hs : Coherent s) {k : JobKind}
    (hk : t.kind = .job k) (cause : FaultCause) :
    Coherent (attemptFails k t.port cause s) := by
  have hleft := (jobLeft_of_txn h hs hk).setHeadCounters fun a b => (a + 1, b)
  unfold attemptFails
  dsimp only
  split
  · exact coherent_jobFails hleft k cause
  · exact coherent_jobWaits hleft.write

theorem coherent_pollEnds (h : TxnInFlight t s) (hs : Coherent s) (hk : t.kind = .poll) :
    Coherent (pollEnds s) := by
  have hdrop : KeepsCoherence s (dropTransaction s) :=
    keepsCoherence_of_noJob (h.flightKind_poll hk) (flightKind_idle rfl) rfl
  unfold pollEnds afterPoll
  split
  · exact hdrop hs
  · exact coherent_write (hdrop hs)

theorem coherent_pollSilent (h : TxnInFlight t s) (hs : Coherent s) (hk : t.kind = .poll) :
    Coherent (pollSilent s) := coherent_pollEnds h (coherent_write hs) hk

theorem coherent_deadlineTaken (h : TxnInFlight t s) (hs : Coherent s) :
    Coherent (deadlineTaken t s) := by
  unfold deadlineTaken
  split
  case h_1 hk => exact coherent_pollSilent h hs hk
  case h_2 k hk =>
    exact coherent_attemptFails (s := bump .busTimeout s) h (coherent_write hs) hk _

theorem coherent_badReply (h : TxnInFlight t s) (hs : Coherent s) : Coherent (badReply t s) := by
  unfold badReply
  split
  case h_1 hk => exact coherent_pollSilent h hs hk
  case h_2 k hk =>
    exact coherent_attemptFails (s := bump .busBadReply s) h (coherent_write hs) hk _

theorem coherent_replyDone (h : TxnInFlight t s) (hs : Coherent s) {k : JobKind}
    (hk : t.kind = .job k) (data : List Byte) : Coherent (replyDone k t.port data s) := by
  have hleft := jobLeft_of_txn h hs hk
  refine coherent_jobFinishes ?_
  split
  · exact hleft.write
  · exact hleft.write

theorem coherent_replyBusy (h : TxnInFlight t s) (hs : Coherent s) {k : JobKind}
    (hk : t.kind = .job k) : Coherent (replyBusy k t.port s) := by
  have hleft : JobLeft t.port (bump .busBusy (dropTransaction s)) := (jobLeft_of_txn h hs hk).write
  have hcounted := (hleft.setHeadCounters fun a b => (a, b + 1)).write (t := returnReservation _)
  unfold replyBusy
  dsimp only
  split
  · split
    · exact coherent_jobWaits hcounted
    · exact coherent_jobWaits (hcounted.of_keeps (keepsLayout_modPort (.of_eq rfl) rfl) rfl)
  · exact coherent_jobFails hleft k _

theorem coherent_judgeJob (h : TxnInFlight t s) (hs : Coherent s) {k : JobKind}
    (hk : t.kind = .job k) (kind : Byte) (data : List Byte) :
    Coherent (judgeJob k t kind data s) := by
  have hbad := coherent_badReply h hs
  unfold judgeJob
  split
  · exact hbad
  · split
    · exact hbad
    · split
      · exact coherent_replyDone h hs hk _
      · split
        · exact coherent_replyBusy h hs hk
        · split
          · split
            · exact coherent_jobFails (jobLeft_of_txn h hs hk) k _
            · exact hbad
          · exact hbad

theorem coherent_judgePoll (h : TxnInFlight t s) (hs : Coherent s) (hk : t.kind = .poll)
    (kind : Byte) (data : List Byte) : Coherent (judgePoll t kind data s) := by
  have hsilent := coherent_pollSilent h hs hk
  unfold judgePoll
  split
  · exact hsilent
  · split
    · exact hsilent
    · split
      · exact coherent_pollEnds h (coherent_write hs) hk
      · split
        · exact coherent_pollEnds h (coherent_write hs) hk
        · exact hsilent

end

/-! ### Characters and timers of the pair -/

theorem keepsCoherence_goodTribFrame (address kind : Byte) (data : List Byte) (s : State) :
    KeepsCoherence s (goodTribFrame address kind data s) := by
  unfold goodTribFrame
  split
  case h_1 t d hbus =>
    have h : TxnInFlight t s := .inr ⟨d, hbus⟩
    split
    · exact keepsCoherence_write
    · split
      case h_1 k hk => exact fun hs => coherent_judgeJob h hs hk kind data
      case h_2 hk => exact fun hs => coherent_judgePoll h hs hk kind data
  case h_2 => exact keepsCoherence_write
  case h_3 => exact keepsCoherence_write
  case h_4 => exact id

theorem keepsCoherence_damagedTribFrame (address : Option Byte) (s : State) :
    KeepsCoherence s (damagedTribFrame address s) := by
  unfold damagedTribFrame
  split
  case h_1 t d hbus =>
    have h : TxnInFlight t s := .inr ⟨d, hbus⟩
    split
    · split
      · exact coherent_badReply h
      · exact id
    · split
      · exact coherent_deadlineTaken h
      · exact id
  case h_2 => exact id

/-- Whether the deadline runs is not told (R101). -/
theorem keepsCoherence_deadline {s : State} {t : Transaction} {d : Deadline}
    (h : s.bus = .awaiting t d) (e : Deadline) : KeepsCoherence s { s with bus := .awaiting t e } :=
  (KeepsLayout.of_bus (flightKind_eq_of_txn (.inr ⟨d, h⟩) (.inr ⟨e, rfl⟩))
    (fun hs => by rw [noSendAwaited, h] at hs; exact hs)).coherent

theorem keepsCoherence_addressByte (a : Byte) (s : State) :
    KeepsCoherence s (addressByte a s) := by
  unfold addressByte
  split
  case h_1 t d hbus =>
    split
    · exact keepsCoherence_deadline hbus _
    · split
      · exact coherent_deadlineTaken (.inr ⟨d, hbus⟩)
      · exact id
  case h_2 => exact id

theorem keepsCoherence_huntTrib (s : State) : KeepsCoherence s (huntTrib s) := keepsCoherence_write

theorem keepsCoherence_endOfTribFrame (n : Nat) (bytes : List Byte) (s : State) :
    KeepsCoherence s (endOfTribFrame n bytes s) := by
  unfold endOfTribFrame
  split
  · split
    · exact (keepsCoherence_huntTrib s).trans (keepsCoherence_goodTribFrame _ _ _ _)
    · exact (keepsCoherence_huntTrib s).trans (keepsCoherence_damagedTribFrame _ _)
  · exact id

theorem keepsCoherence_tribFrameByte (bytes : List Byte) (s : State) :
    KeepsCoherence s (tribFrameByte bytes s) := by
  unfold tribFrameByte
  split
  · exact KeepsCoherence.trans keepsCoherence_write (keepsCoherence_addressByte _ _)
  · split
    · exact (keepsCoherence_huntTrib s).trans (keepsCoherence_damagedTribFrame _ _)
    · exact keepsCoherence_write
  · split
    · exact keepsCoherence_endOfTribFrame _ _ s
    · exact keepsCoherence_write
  · exact keepsCoherence_write

theorem keepsCoherence_tribChar (c : LineChar) (s : State) : KeepsCoherence s (tribChar c s) := by
  unfold tribChar
  split
  · split
    · exact keepsCoherence_write
    · exact id
  · split
    · exact (keepsCoherence_huntTrib s).trans (keepsCoherence_damagedTribFrame _ _)
    · exact keepsCoherence_tribFrameByte _ s

theorem keepsCoherence_tribGapExpires (s : State) : KeepsCoherence s (tribGapExpires s) := by
  unfold tribGapExpires
  split
  · exact id
  · exact (keepsCoherence_huntTrib s).trans (keepsCoherence_damagedTribFrame _ _)

/-- A frame in SENDING that carries a SEND settles it (R99). -/
theorem keepsCoherence_postSent {s : State} (h : sendingPost s = true) :
    KeepsCoherence s (postSent s) := by
  unfold sendingPost at h
  split at h
  case h_1 t hbus =>
    intro hs
    have hpost : postSent s = jobFinishes t.port (dropTransaction s) := by rw [postSent, hbus]
    rw [hpost]
    exact coherent_jobFinishes (jobLeft_of_txn (.inl hbus) hs (beq_iff_eq.mp h))
  case h_2 => cases h

/-- A COMMAND or POLL frame has been sent, so no SEND is awaited (R100, R131). -/
theorem keepsCoherence_commandSent {s : State}
    (h : sendingCommand s = true ∨ sendingPoll s = true) : KeepsCoherence s (commandSent s) := by
  cases hbus : s.bus with
  | idle | quiet | awaiting => simp [sendingCommand, sendingPoll, hbus] at h
  | sending t =>
    have hsent := commandSent_eq hbus
    rw [hsent]
    refine (KeepsLayout.of_bus (flightKind_eq_of_txn (.inl hbus) (.inr ⟨_, rfl⟩))
      fun _ => ?_).coherent
    have hkind : t.kind ≠ .job .send := by
      intro hsend
      simp [sendingCommand, sendingPoll, hbus, hsend] at h
    exact bne_iff_ne.mpr hkind

theorem keepsCoherence_deadlineExpires (s : State) : KeepsCoherence s (deadlineExpires s) := by
  unfold deadlineExpires
  split
  case h_1 t d hbus =>
    split
    · exact keepsCoherence_deadline hbus _
    · exact coherent_deadlineTaken (.inr ⟨d, hbus⟩)
  case h_2 => exact id

/-- The end of the character of an abandoned frame leaves the bus QUIET (R111). -/
theorem keepsCoherence_releasePair (s : State) : KeepsCoherence s (releasePair s) := by
  unfold releasePair
  split
  case h_1 n frame hbus =>
    exact keepsCoherence_of_noJob (fun p => by rw [flightKind, hbus]) (fun p => rfl) rfl
  case h_2 => exact id

theorem keepsCoherence_endsQuiet {s : State} (h : busQuiet s = true) :
    KeepsCoherence s (dropTransaction s) := by
  unfold busQuiet at h
  split at h
  case h_1 n frame hbus =>
    exact keepsCoherence_of_noJob (fun p => by rw [flightKind, hbus]) (flightKind_idle rfl) rfl
  case h_2 => cases h

/-! ### The decision and the end of an event -/

/-- A job that starts heads its port, which is OPEN or CLOSING; a port CLOSING in DISCARD mode has
no head to start (R76, R94). -/
theorem coherent_startJob {s : State} (hs : Coherent s) (hidle : s.bus = .idle) {p : PortNo}
    {k : JobKind} (h : eligibleHead s p = some k) : Coherent (startJob k p s) := by
  obtain ⟨hstands, hsettled, hholds⟩ := (coherent_iff s).mp hs
  obtain ⟨hoffers, -⟩ := eligibleHead_eq_some.mp h
  obtain ⟨hstate, hhead, -⟩ := Port.offers_eq_some.mp hoffers
  obtain ⟨a, r, hbus⟩ : ∃ a r, (startJob k p s).bus = .sending ⟨.job k, p, a, r⟩ := by
    rw [startJob_eq]; exact ⟨_, _, rfl⟩
  have hport : ∀ q, (startJob k p s).port q = s.port q := fun q => by rw [startJob_eq]; rfl
  have hfence : ∀ i, (startJob k p s).fence i = s.fence i := fun i => by rw [startJob_eq]; rfl
  generalize startJob k p s = t at *
  have hself : flightKind t p = some k := flightKind_eq_some.mpr ⟨a, r, .inl hbus⟩
  have hmarks : ∀ i q, headIsMarker t i q = headIsMarker s i q := fun i q =>
    headIsMarker_congr (hport q) i
  refine (coherent_iff t).mpr ⟨⟨fun q k' hk' => ?_, fun q _ => ?_, fun i => (hstands.fence i).congr
    (hfence i) (fun q => by rw [hport]) fun q => (hmarks i q).trans, by rw [noSendAwaited, hbus]⟩,
    fun i => (hsettled i).congr (hfence i) fun q => (hmarks i q).symm.trans,
    fun q => (hport q).symm ▸ hholds q⟩
  · by_cases hq : q = p
    · subst hq
      rw [hport, ← hk', hself, hhead]
    · cases (flightKind_other hself hq).symm.trans hk'
  · have hfits := hstands.fits q trivial
    rw [flightKind_idle hidle] at hfits
    rw [hport]
    by_cases hq : q = p
    · subst hq
      obtain hopen | ⟨c, hc⟩ := hstate
      · exact stateFits_opened hopen
      · rw [StateFits, hc] at hfits ⊢
        intro hmode
        obtain hnil | ⟨hnone, -⟩ := hfits hmode
        · exact .inl hnil
        · cases hnone
    · rw [flightKind_other hself hq]
      exact hfits

/-- A poll is no job in flight (R131). -/
theorem keepsCoherence_startPoll {s : State} (hidle : s.bus = .idle) (p : PortNo) :
    KeepsCoherence s (startPoll p s) :=
  keepsCoherence_of_noJob (flightKind_idle hidle)
    (TxnInFlight.flightKind_poll
      (t := ⟨.poll, p, (s.port p).params.address, (s.port p).params.replyTimeout⟩) (.inl rfl) rfl)
    rfl

theorem coherent_evalScan {s : State} (hs : Coherent s) : Coherent (evalScan s) := by
  obtain h | ⟨-, h⟩ := evalScan_cases s
  · rw [h]; exact hs
  · rw [h]; exact coherent_write hs

theorem coherent_choose {s : State} (hs : Coherent s) : Coherent (choose s) := by
  have hframe := choose_eq s
  exact ((samePool_choose s).keepsLayout (by rw [hframe]; rfl) (by rw [hframe]; rfl)).coherent hs

theorem coherent_decisionPass {s : State} (hs : Coherent s) (hidle : s.bus = .idle) :
    Coherent (decisionPass s) := by
  obtain ⟨p, h, -⟩ | ⟨v, h, -, hv, -⟩ := decisionPass_cases s
  · obtain ⟨scan, index, hrun⟩ : ∃ scan index,
        runPending s = { s with scan := scan, nextIndex := index } := by
      unfold runPending
      split
      · exact ⟨_, _, rfl⟩
      · exact ⟨s.scan, s.nextIndex, rfl⟩
    rw [h, hrun]
    exact keepsCoherence_startPoll hidle p (coherent_write hs)
  · have hv' : Coherent v := by rw [hv]; exact coherent_write hs
    have hvidle : v.bus = .idle := by rw [hv]; exact hidle
    rw [h]
    obtain ⟨p, k, hk, hstart⟩ | ⟨-, hnone⟩ := offerJobs_cases v
    · rw [hstart]; exact coherent_startJob hv' hvidle hk
    · rw [hnone]; exact coherent_evalScan (coherent_write hv')

theorem coherent_arbitrate {s : State} (hs : Coherent s) : Coherent (arbitrate s) := by
  obtain h | ⟨hidle, -, h⟩ := arbitrate_cases s
  · rw [h]; exact hs
  · have hpass := coherent_decisionPass hs hidle
    rw [h]
    unfold decision
    dsimp only
    split
    case isTrue hagain =>
      rw [Bool.and_eq_true, beq_iff_eq] at hagain
      exact coherent_decisionPass hpass hagain.2
    case isFalse => exact hpass

theorem coherent_endEvent {s : State} (hs : Coherent s) : Coherent (endEvent s) :=
  coherent_write (coherent_evalScan (coherent_arbitrate (coherent_choose (coherent_evalScan hs))))

/-! ### Every step -/

theorem keepsCoherence_of_move {s t : State} (h : Move s t) : KeepsCoherence s t := by
  cases h with
  | receives | hearsNoise | freesLine | sensesAttn => exact keepsCoherence_write
  | serves f => exact KeepsCoherence.trans keepsCoherence_write (keepsCoherence_serve f _)
  | findsMalformed | findsDamaged | losesLink =>
    exact KeepsCoherence.trans keepsCoherence_write (keepsCoherence_holdIfRunning _ _)
  | hearsPair c => exact (keepsCoherence_tribChar c s).withFlags
  | hearsFrame address kind data =>
    exact KeepsCoherence.withFlags
      ((keepsCoherence_huntTrib s).trans (keepsCoherence_goodTribFrame address kind data _))
  | hearsGap => exact (keepsCoherence_tribGapExpires s).withFlags
  | sentPost h => exact (keepsCoherence_postSent h).withFlags
  | sentCommand h => exact keepsCoherence_commandSent h
  | meetsDeadline => exact (keepsCoherence_deadlineExpires s).withFlags
  | endsBusyWait p =>
    exact KeepsCoherence.trans (keepsLayout_stopBusyWait p s).coherent keepsCoherence_write
  | endsQuiet h => exact keepsCoherence_endsQuiet h
  | releasesPair => exact keepsCoherence_releasePair s

theorem coherent_pinReset (rate : Rate) (held : Bool) (s : State) :
    Coherent (pinReset rate held s) :=
  coherent_of_reset port_reset fence_reset (fun _ => rfl) rfl

/-- Settles O57: each move within an event keeps coherence, and so does the decision at its end. -/
theorem stepKeepsCoherence : Obligations.StepKeepsCoherence := fun _ _ =>
  step_keeps_of_moves (P := fun s => Coherent s) (Q := fun s => Coherent s)
    (fun _ _ hs => coherent_write hs) (fun _ => id) (fun _ _ h => keepsCoherence_of_move h)
    (fun _ => coherent_endEvent) (fun _ _ hs => coherent_write hs)
    fun rate s => ⟨coherent_pinReset rate true s, coherent_pinReset rate false s⟩

end Sys2Proof.Machine
end

section
/-! PROOF. Decisions with a scan under way (R93, R130, R131, R134): the poll that a scan names, a
scan without a free report entry, a scan that completes, and the new scan of the same decision. -/

namespace Sys2Proof.Machine

/-! ### The port that a scan names -/

theorem listening : Sys2Proof.Claim.Listening := by
  intro p s
  simp [Port.listens, isYes_iff, Option.isSome_iff_exists, bound_eq_some]

/-- A scan names the lowest listening port at or above its next index (R130). -/
theorem nextPollPort_eq_some {s : State} {p : PortNo} (hindex : s.nextIndex ≤ p.val)
    (hp : (s.port p).listens = true)
    (hfirst : ∀ q : PortNo, s.nextIndex ≤ q.val → q.val < p.val → (s.port q).listens = false) :
    nextPollPort s = some p := by
  have hports : allPorts = searchOrder 0 := by decide
  rw [nextPollPort, hports]
  refine find?_searchOrder (by simp [hindex, hp]) fun q hq => ?_
  rw [sub_zero, sub_zero] at hq
  by_cases hq' : s.nextIndex ≤ q.val
  · simp [hfirst q hq' hq]
  · simp [hq']

theorem nextPollPort_eq_none {s : State}
    (h : ∀ q : PortNo, s.nextIndex ≤ q.val → (s.port q).listens = false) :
    nextPollPort s = none := by
  simpa [nextPollPort, mem_allPorts] using h

theorem exists_lowest_listening {s : State} (h : ∃ q, (s.port q).listens = true) :
    ∃ p, (s.port p).listens = true ∧
      ∀ q : PortNo, q.val < p.val → (s.port q).listens = false := by
  obtain ⟨p, hp, hlowest⟩ := wellFounded_lt.has_min {q | (s.port q).listens = true} h
  exact ⟨p, hp, fun q hq => Bool.eq_false_iff.mpr fun hlistens => hlowest q hlistens hq⟩

/-! ### One pass with a scan under way -/

/-- A scan is PENDING, or RUNNING, and goes on from the index `i` (R130). -/
def ScanFrom (s : State) (i : Nat) : Prop :=
  (s.scan = .pending ∧ i = 0) ∨ (s.scan = .running ∧ i = s.nextIndex)

/-- A scan offered the bus is RUNNING, and its next index is `i` (R130). -/
def scanGoesOn (i : Nat) (s : State) : State := { s with scan := .running, nextIndex := i }

@[simp] theorem scan_scanGoesOn (i : Nat) (s : State) : (scanGoesOn i s).scan = .running := rfl

theorem runPending_of_scanFrom {s : State} {i : Nat} (h : ScanFrom s i) :
    runPending s = scanGoesOn i s := by
  obtain ⟨hpending, rfl⟩ | ⟨hrunning, rfl⟩ := h
  · exact if_pos hpending
  · rw [runPending, if_neg (by rw [hrunning]; nofun), scanGoesOn, ← hrunning]

section
variable {s : State} {i : Nat}

/-- With an entry free the pass polls the port named (R131). -/
theorem decisionPass_polls (h : ScanFrom s i) {p : PortNo} (hindex : i ≤ p.val)
    (hp : (s.port p).listens = true)
    (hfirst : ∀ q : PortNo, i ≤ q.val → q.val < p.val → (s.port q).listens = false)
    (hroom : entriesInUse s < 32) :
    decisionPass s = startPoll p (scanGoesOn i s) := by
  have hnamed : nextPollPort (scanGoesOn i s) = some p :=
    nextPollPort_eq_some hindex hp hfirst
  rw [decisionPass, runPending_of_scanFrom h, if_pos (scan_scanGoesOn i s), hnamed]
  exact if_pos ((entryFree_iff s).mpr hroom)

/-- With no entry free a scan that has a port left goes on, and the bus is offered to jobs (R93). -/
theorem decisionPass_withoutRoom (h : ScanFrom s i) {p : PortNo} (hindex : i ≤ p.val)
    (hp : (s.port p).listens = true) (hfull : 32 ≤ entriesInUse s) :
    decisionPass s = offerJobs (scanGoesOn i s) := by
  have hnoEntry : entryFree (scanGoesOn i s) = false :=
    entryFree_eq_false hfull
  rw [decisionPass, runPending_of_scanFrom h, if_pos (scan_scanGoesOn i s)]
  split
  case h_1 => exact if_neg (by rw [hnoEntry]; nofun)
  case h_2 hnone =>
    have hp' : ¬ (decide (i ≤ p.val) && (s.port p).listens) = true :=
      List.find?_eq_none.mp hnone p (mem_allPorts p)
    exact absurd (by simp [hindex, hp]) hp'

/-- With no port left the scan completes, and the bus is offered to jobs (R134). -/
theorem decisionPass_completes (h : ScanFrom s i)
    (hnone : ∀ q : PortNo, i ≤ q.val → (s.port q).listens = false) :
    decisionPass s = offerJobs (stopScan true s) := by
  have hnamed : nextPollPort (scanGoesOn i s) = none := nextPollPort_eq_none hnone
  rw [decisionPass, runPending_of_scanFrom h, if_pos (scan_scanGoesOn i s), hnamed]
  rfl

end

theorem decisionPass_inactive {s : State} (h : s.scan = .inactive) :
    decisionPass s = offerJobs s := by
  have hrun : runPending s = s := if_neg (by rw [h]; nofun)
  rw [decisionPass, hrun]
  exact if_neg (by rw [h]; nofun)

/-- A decision is one pass, unless it leaves a scan PENDING. -/
theorem decision_of_pass {s t : State} (h : decisionPass s = t) (hscan : t.scan ≠ .pending) :
    decision s = t := by
  rw [decision, h]
  exact if_neg (by simp [hscan])

/-- A pass that leaves a scan PENDING on an IDLE bus is followed by another (R134). -/
theorem decision_of_second_pass {s t : State} (h : decisionPass s = t) (hscan : t.scan = .pending)
    (hbus : t.bus = .idle) : decision s = decisionPass t := by
  rw [decision, h]
  exact if_pos (by simp [hscan, hbus])

/-! ### The offer to jobs -/

section
variable {s : State} {p : PortNo} {k : JobKind}

/-- The first urgent port with an eligible head, from the pointer, is served (R93, step 2). -/
theorem offerJobs_urgent (hk : eligibleHead s p = some k) (hurgent : (s.port p).params.urgent = 1)
    (hfirst : ∀ q, (s.port q).params.urgent = 1 → (q - s.urgentPtr).val < (p - s.urgentPtr).val →
      eligibleHead s q = none) :
    offerJobs s =
      { s with
        bus := .sending ⟨.job k, p, (s.port p).params.address, (s.port p).params.replyTimeout⟩
        tribRx := .hunt
        urgentPtr := p + 1
        alternation := false
        reservations := if k = .send then s.reservations else s.reservations + 1 } := by
  have hclass : isYes (s.port p).params.urgent = true := (isYes_iff _).mpr hurgent
  have hfind : findHead true s = some p :=
    findHead_eq_some hk hclass fun q hq => hfirst q ((isYes_iff _).mp hq)
  rw [offerJobs_of_findHead (p := p) (by rw [hfind]; rfl) hk, startJob_eq, hclass]
  rfl

/-- With no urgent head eligible, the first normal port that has one is served (R93, step 3). -/
theorem offerJobs_normal (hk : eligibleHead s p = some k) (hnormal : (s.port p).params.urgent ≠ 1)
    (hnone : ∀ q, (s.port q).params.urgent = 1 → eligibleHead s q = none)
    (hfirst : ∀ q, (s.port q).params.urgent ≠ 1 → (q - s.normalPtr).val < (p - s.normalPtr).val →
      eligibleHead s q = none) :
    offerJobs s =
      { s with
        bus := .sending ⟨.job k, p, (s.port p).params.address, (s.port p).params.replyTimeout⟩
        tribRx := .hunt
        normalPtr := p + 1
        alternation := false
        reservations := if k = .send then s.reservations else s.reservations + 1 } := by
  have hclass : isYes (s.port p).params.urgent = false := (isYes_eq_false_iff _).mpr hnormal
  have hnoUrgent : findHead true s = none :=
    findHead_eq_none_iff.mpr fun q hq => hnone q ((isYes_iff _).mp hq)
  have hfind : findHead false s = some p :=
    findHead_eq_some hk hclass fun q hq => hfirst q ((isYes_eq_false_iff _).mp hq)
  rw [offerJobs_of_findHead (p := p) (by rw [hnoUrgent, hfind]; rfl) hk, startJob_eq, hclass]
  rfl

end

/-- With no head eligible and no new scan to begin the bus stays IDLE (R93, step 4). -/
theorem offerJobs_idle {s : State} (hnone : ∀ q, eligibleHead s q = none)
    (hquiet : s.scan = .inactive → s.attn = true → s.scanEnable = true →
      ∀ q, (s.port q).listens = false) :
    offerJobs s = { s with alternation := false } := by
  rw [offerJobs_of_none hnone]
  refine evalScan_of_not_due fun hdue => ?_
  obtain ⟨hinactive, hattn, henable, -, q, hlistens⟩ := (scanDue_iff _).mp hdue
  exact Bool.false_ne_true ((hquiet hinactive hattn henable q).symm.trans hlistens)

theorem offerJobs_running {s : State} (hscan : s.scan = .running)
    (hnone : ∀ q, eligibleHead s q = none) : offerJobs s = { s with alternation := false } :=
  offerJobs_idle hnone fun hinactive => by rw [hscan] at hinactive; cases hinactive

/-- With no head eligible and ATTN asserted, the enable on and a listening port, a scan becomes
PENDING (R129, R134). -/
theorem offerJobs_newScan {s : State} (hdecision : s.decisionDue = true)
    (hnone : ∀ q, eligibleHead s q = none) (hscan : s.scan = .inactive) (hattn : s.attn = true)
    (henable : s.scanEnable = true) (hlistens : ∃ p, (s.port p).listens = true) :
    offerJobs s = { s with scan := .pending, alternation := false } := by
  have hdue : scanDue { s with alternation := false } = true :=
    (scanDue_iff _).mpr ⟨hscan, hattn, henable, rfl, hlistens⟩
  rw [offerJobs_of_none hnone, evalScan, if_pos hdue, callArbiter, ← hdecision]

/-! ### The decision of an event -/

theorem arbitrate_of_pass {s t : State} (hbus : s.bus = .idle) (hdue : s.decisionDue = true)
    (h : decisionPass s = t) (hscan : t.scan ≠ .pending) : arbitrate s = t :=
  (arbitrate_eq_decision hbus hdue).trans (decision_of_pass h hscan)

theorem pollDecision : Sys2Proof.Claim.PollDecision := by
  intro s i p hbus hdue hscan hindex hp hfirst hroom
  exact arbitrate_of_pass hbus hdue (decisionPass_polls hscan hindex hp hfirst hroom) nofun

theorem scanWithoutRoom : Sys2Proof.Claim.ScanWithoutRoom := by
  intro s i p hbus hdue hscan hindex hp hfull
  have hpass := decisionPass_withoutRoom hscan hindex hp hfull
  have harbitrate {t : State}
      (ht : offerJobs (scanGoesOn i s) = t) (hrunning : t.scan = .running) : arbitrate s = t :=
    arbitrate_of_pass hbus hdue (hpass.trans ht) (by rw [hrunning]; nofun)
  refine ⟨fun q k hk => ?_, fun q hk hurgent hfirst => ?_, fun q hk hnormal hnone hfirst => ?_,
    fun hnone => ?_⟩
  · obtain ⟨-, hsend | hfree⟩ := eligibleHead_eq_some.mp hk
    · exact hsend
    · rw [entryFree_eq_false hfull] at hfree; cases hfree
  · exact harbitrate
      (offerJobs_urgent (s := scanGoesOn i s) hk hurgent hfirst) rfl
  · exact harbitrate
      (offerJobs_normal (s := scanGoesOn i s) hk hnormal hnone hfirst) rfl
  · exact harbitrate
      (offerJobs_running (s := scanGoesOn i s) rfl hnone) rfl

theorem newScan : Sys2Proof.Claim.NewScan := by
  intro s p hbus hdue hscan hnone hattn henable hp hfirst
  obtain ⟨n, hpass⟩ : ∃ n, decisionPass s =
      { s with scan := .pending, nextIndex := n, alternation := false } := by
    obtain hinactive | ⟨hrunning, hpast⟩ := hscan
    · exact ⟨s.nextIndex, (decisionPass_inactive hinactive).trans
        (offerJobs_newScan hdue hnone hinactive hattn henable ⟨p, hp⟩)⟩
    · exact ⟨0, (decisionPass_completes (.inr ⟨hrunning, rfl⟩) hpast).trans
        (offerJobs_newScan (s := stopScan true s) hdue hnone rfl hattn henable ⟨p, hp⟩)⟩
  have hpending :
      ScanFrom { s with scan := .pending, nextIndex := n, alternation := false } 0 :=
    .inl ⟨rfl, rfl⟩
  rw [arbitrate_eq_decision hbus hdue, decision_of_second_pass hpass rfl hbus]
  refine ⟨fun hroom => ?_, fun hfull => ?_⟩
  · exact decisionPass_polls hpending p.val.zero_le hp (fun q _ => hfirst q) hroom
  · exact (decisionPass_withoutRoom hpending p.val.zero_le hp hfull).trans
      (offerJobs_running rfl hnone)

/-- A scan that completes with no head eligible and no new scan to begin leaves the bus IDLE. -/
theorem arbitrate_completes {s : State} {i : Nat} (hbus : s.bus = .idle)
    (hdue : s.decisionDue = true) (hscan : ScanFrom s i)
    (hpast : ∀ q : PortNo, i ≤ q.val → (s.port q).listens = false)
    (hnone : ∀ q, eligibleHead s q = none)
    (hquiet : s.attn = true → s.scanEnable = true → ∀ q, (s.port q).listens = false) :
    arbitrate s = { s with scan := .inactive, nextIndex := 0, alternation := false } := by
  refine arbitrate_of_pass hbus hdue ((decisionPass_completes hscan hpast).trans ?_) nofun
  exact offerJobs_idle (s := stopScan true s) hnone fun _ => hquiet

theorem scanCompletion : Sys2Proof.Claim.ScanCompletion := by
  intro s i hbus hdue hscan hpast
  have hcompletes := arbitrate_completes hbus hdue hscan hpast
  refine ⟨fun p k _ => ?_, fun hnone => ⟨fun t ht => ?_, fun hquiet => hcompletes hnone ?_⟩⟩
  · have hpass : decisionPass s = decisionPass (stopScan true s) :=
      (decisionPass_completes hscan hpast).trans (decisionPass_inactive rfl).symm
    calc
      arbitrate s = decision s := arbitrate_eq_decision hbus hdue
      _ = decision (stopScan true s) := by rw [decision, decision, hpass]
      _ = arbitrate (stopScan true s) :=
        (arbitrate_eq_decision (s := stopScan true s) hbus hdue).symm
  · by_cases hnew : s.attn = true ∧ s.scanEnable = true ∧ ∃ q, (s.port q).listens = true
    · obtain ⟨hattn, henable, hlistens⟩ := hnew
      obtain ⟨p, hp, hfirst⟩ := exists_lowest_listening hlistens
      obtain ⟨-, rfl⟩ | ⟨hrunning, rfl⟩ := hscan
      · rw [hpast p p.val.zero_le] at hp; cases hp
      · obtain ⟨hpolls, hwaits⟩ :=
          newScan s p hbus hdue (.inr ⟨hrunning, hpast⟩) hnone hattn henable hp hfirst
        obtain hroom | hfull := Nat.lt_or_ge (entriesInUse s) 32
        · rw [hpolls hroom] at ht; cases ht; rfl
        · rw [hwaits hfull] at ht; cases hbus.symm.trans ht
    · rw [hcompletes hnone fun hattn henable q => Bool.eq_false_iff.mpr fun hlistens =>
        hnew ⟨hattn, henable, q, hlistens⟩] at ht
      cases hbus.symm.trans ht
  · intro hattn henable
    obtain hoff | hoff | hsilent := hquiet
    · rw [hattn] at hoff; cases hoff
    · rw [henable] at hoff; cases hoff
    · exact hsilent

/-- Settles O44: each pass by the port that the scan names, and a second one where a scan becomes
PENDING. -/
theorem arbiterServesScans : Obligations.ArbiterServesScans :=
  ⟨listening, pollDecision, scanWithoutRoom, scanCompletion, newScan⟩

end Sys2Proof.Machine
end

section
/-! PROOF. The outcomes of a poll (R132, R133) with what the scanner makes of them (R135). -/

namespace Sys2Proof.Machine

/-! ### The end of a poll -/

/-- What every poll leaves: its reservation used or returned, the bus IDLE with a decision due, and
the scan stopped where its enable is off (R132, R135). -/
def pollOver (s : State) : State :=
  { s with
    bus := .idle
    reservations := s.reservations - 1
    decisionDue := true
    scan := if s.scanEnable then s.scan else .inactive
    nextIndex := if s.scanEnable then s.nextIndex else 0
    alternation := if s.scanEnable then s.alternation else false }

theorem afterPoll_eq (s : State) :
    afterPoll s =
      { s with
        scan := if s.scanEnable then s.scan else .inactive
        nextIndex := if s.scanEnable then s.nextIndex else 0
        alternation := if s.scanEnable then s.alternation else false } := by
  unfold afterPoll
  by_cases h : s.scanEnable = true
  · simp only [if_pos h]
  · simp only [if_neg h]; rfl

theorem pollEnds_returnReservation (s : State) : pollEnds (returnReservation s) = pollOver s :=
  afterPoll_eq _

theorem pollEnds_useReservation (b : ReportBody) (s : State) :
    pollEnds (useReservation b s) =
      { pollOver s with reports := s.reports ++ [⟨s.nextRC, b⟩], nextRC := s.nextRC + 1 } :=
  afterPoll_eq _

theorem pollSilent_eq (s : State) : pollSilent s = bump .scanSilent (pollOver s) :=
  pollEnds_returnReservation (bump .scanSilent s)

/-! ### Answers to a poll -/

section
variable (t : Transaction) (s : State)

theorem judgePoll_event {after : List Byte} (hpos : 1 ≤ after.length) (hle : after.length ≤ 16) :
    judgePoll t replyKind (0x04#8 :: after) s =
      pollEnds (useReservation (.event t.port t.address after) s) := by
  simp [judgePoll, hpos, hle]

theorem judgePoll_none :
    judgePoll t replyKind [0x03#8] s = pollEnds (returnReservation s) := by
  simp [judgePoll]

/-- Any other good frame counts as silence (R132). -/
theorem judgePoll_silent {kind : Byte} {data : List Byte} (h : ¬ pollAnswer kind data) :
    judgePoll t kind data s = pollSilent s := by
  unfold judgePoll
  split
  case isTrue => rfl
  case isFalse hkind =>
    have hreply : kind = replyKind := not_not.mp hkind
    split
    case h_1 => rfl
    case h_2 status after =>
      split_ifs with hevent hnone
      · obtain ⟨hstatus, hlength⟩ := hevent
        exact absurd ⟨hreply, .inl ⟨after, by rw [hstatus], hlength⟩⟩ h
      · obtain ⟨hstatus, hempty⟩ := hnone
        exact absurd ⟨hreply, .inr (by rw [hstatus, hempty])⟩ h
      · rfl

end

/-- A good frame from the awaited device answers the poll; port records and pool stay, and with them
the flags (R132). -/
theorem exec_of_pollAnswer {c : Instr} {kind : Byte} {body : List Byte} {s t : State} {p : PortNo}
    {a rt : Byte} {d : Deadline} (hf : goodFrameOf c = some (a, kind, body))
    (hc : c.carried = true) (h : s.resetHeld = false) (hbus : s.bus = .awaiting ⟨.poll, p, a, rt⟩ d)
    (hanswer : judgePoll ⟨.poll, p, a, rt⟩ kind body (huntTrib s) = t)
    (hports : t.ports = s.ports := by rfl) (hfree : t.free = s.free := by rfl)
    (hreserve : t.poolReserve = s.poolReserve := by rfl) :
    exec c s = .next (endEvent t) := by
  rw [exec_of_awaited_goodFrame (t := ⟨.poll, p, a, rt⟩) hf hc h hbus]
  refine congrArg (Host.Outcome.next ∘ endEvent) (withFlags_of_ports ?_ hports hfree hreserve)
  exact (goodTribFrame_awaited (s := huntTrib s) hbus kind body).trans hanswer

/-- Settles O39: each answer by its form, and the character gap and the deadline as silence. -/
theorem pollOutcome : Obligations.PollOutcome := by
  intro p a rt d s u h hbus hu
  have hover : u = pollOver s := hu
  subst hover
  refine ⟨fun after hpos hle => ?_, ?_, fun c kind body hf hc hsilent => ?_, fun got hrx => ?_,
    fun hd hrx => ?_⟩
  · have hcarried : (Instr.replyEvent a after).carried = true :=
      decide_eq_true (Nat.lt_of_le_of_lt hle (by decide : 16 < Config.maxTribLen))
    exact exec_of_pollAnswer rfl hcarried h hbus
      ((judgePoll_event _ _ hpos hle).trans (pollEnds_useReservation _ _))
  · exact exec_of_pollAnswer rfl rfl h hbus
      ((judgePoll_none _ _).trans (pollEnds_returnReservation _))
  · exact exec_of_pollAnswer hf hc h hbus ((judgePoll_silent _ _ hsilent).trans (pollSilent_eq _))
  · have hgap : tribGapExpires s = bump .scanSilent (pollOver (huntTrib s)) :=
      (tribGapExpires_eq hrx).trans
        ((damagedTribFrame_awaited (s := huntTrib s) hbus).trans (pollSilent_eq _))
    rw [exec_gapExpiry h hrx, withFlags_of_ports hgap]
    rfl
  · subst hd
    have hexpires : deadlineExpires s = bump .scanSilent (pollOver s) :=
      (deadlineExpires_taken hbus hrx).trans (pollSilent_eq s)
    rw [exec_deadlineExpiry h hbus, withFlags_of_ports hexpires]

end Sys2Proof.Machine
end

section
/-! PROOF. The events of the pins, of the transmit line and of the timers of the pair: each command by
its trigger, which stands, and its own effect (R105, R111, R113, R127, R153). -/

namespace Sys2Proof.Machine

theorem attnChange : Sys2Proof.Claim.AttnChange := by
  intro a s h hchange
  have hrunning : ¬ s.resetHeld = true := by rw [h]; nofun
  exact congrArg Host.Outcome.next
    ((if_neg hrunning).trans
      (eventIf_of_running (occurs := fun s => s.attn != a) h (bne_iff_ne.mpr hchange) (setAttn a)))

theorem endOfTransmission : Sys2Proof.Claim.EndOfTransmission := by
  intro f s h hline
  exact congrArg Host.Outcome.next (eventIf_of_running h (by rw [lineBusy, hline]) _)

theorem releasePair_quiet {s : State} {n : Byte} {f : Option (List Byte)}
    (h : s.bus = .quiet n f) : releasePair s = { s with bus := .quiet n none } := by
  rw [releasePair, h]

theorem busTimers : Sys2Proof.Claim.BusTimers := by
  intro s h
  refine ⟨fun p n hwait => ?_, fun n f hquiet => ?_, fun n f hquiet => ?_⟩
  · exact congrArg Host.Outcome.next (eventIf_of_running h (by rw [hwait]; rfl) _)
  · exact congrArg Host.Outcome.next (eventIf_of_running h (by rw [busQuiet, hquiet]) _)
  · rw [← releasePair_quiet hquiet]
    exact congrArg Host.Outcome.next
      (eventIf_of_running h (by rw [abandonedChar, hquiet]; rfl) releasePair)

/-- Settles O6: each trigger stands, so the event occurs, with the command's own effect. -/
theorem timersAndEnds : Obligations.TimersAndEnds := ⟨attnChange, endOfTransmission, busTimers⟩

end Sys2Proof.Machine
end

section
/-! PROOF. The transmitter's choice source by source (R150 to R152, R155), what the end of an event
writes and that it leaves nothing (R92, R129), the edges of RESET (R159, R183), and the answer slot
under RECALL (R148, R157). -/

namespace Sys2Proof.Machine

-- One proof is elaborated at a time: many at once would each hold a thread's stack.
set_option Elab.async false

/-! ### A PROGRESS frame -/

theorem port_foldl_clearDirty (l : List PortNo) (s : State) (p : PortNo) :
    (l.foldl clearDirty s).port p = if p ∈ l then (s.port p).durable else s.port p := by
  induction l generalizing s with
  | nil => rfl
  | cons q l ih =>
    rw [List.foldl_cons, ih, clearDirty, port_modPort]
    by_cases hp : p = q
    · subst hp; simp [Port.durable]
    · simp [hp]

/-- A port whose dirty flag is clear is as clearing it leaves it. -/
theorem durable_of_clean {x : Port} (h : x.dirty = false) : x.durable = x := by
  rw [Port.durable, ← h]

/-- A PROGRESS frame clears the dirty flag of every port: those listed are the dirty ones (R146). -/
theorem port_beginProgress (s : State) (p : PortNo) :
    (beginProgress s).port p = (s.port p).durable := by
  have hclear : (progressEntries s).foldl (fun acc e => clearDirty acc e.1) s =
      (allPorts.filter fun q => (s.port q).dirty).foldl clearDirty s := List.foldl_map
  have hport : (beginProgress s).port p =
      ((progressEntries s).foldl (fun acc e => clearDirty acc e.1) s).port p := rfl
  rw [hport, hclear, port_foldl_clearDirty]
  split
  case isTrue => rfl
  case isFalse h => exact (durable_of_clean (by simpa [mem_allPorts] using h)).symm

theorem ports_eq_map {s t : State} {f : Port → Port} (h : ∀ p, t.port p = f (s.port p)) :
    t.ports = s.ports.map f :=
  Vector.ext fun i hi => by rw [Vector.getElem_map]; exact h ⟨i, hi⟩

/-- The start of a PROGRESS frame, field by field (R151, R152). -/
theorem beginProgress_eq (s : State) :
    beginProgress s =
      { s with
        line := .busy (.progress (progressEntries s))
        ports := s.ports.map Port.durable
        progressPending := false
        turn := .progress } := by
  obtain ⟨ports, h⟩ := beginProgress_frame s
  have hports : ports = s.ports.map Port.durable := by
    rw [← ports_eq_map (port_beginProgress s), h]
  rw [h, hports]

/-! ### The choice, source by source -/

theorem choose_of_stream {s : State} (hfree : s.line = .free) (hstream : s.streamPending = true) :
    choose s = beginStream s := by
  simp only [choose, hfree, hstream, if_true]

theorem choose_of_flow {s : State} (hfree : s.line = .free) (hstream : s.streamPending = false)
    (hflow : s.flowPending = true) : choose s = beginFlow s := by
  simp only [choose, hfree, hstream, hflow, if_true, Bool.false_eq_true, if_false]

theorem choose_of_slot {s : State} (hfree : s.line = .free) (hstream : s.streamPending = false)
    (hflow : s.flowPending = false) {a : Answer} (hslot : s.slot = some a) :
    choose s = beginAnswer a s := by
  simp only [choose, hfree, hstream, hflow, hslot, Bool.false_eq_true, if_false]

/-- With neither STREAM nor FLOW pending and the slot empty the turn decides (R151). -/
theorem choose_of_turn {s : State} (hfree : s.line = .free) (hstream : s.streamPending = false)
    (hflow : s.flowPending = false) (hslot : s.slot = none) :
    choose s = beginQueueOrProgress s := by
  simp only [choose, hfree, hstream, hflow, hslot, Bool.false_eq_true, if_false]

theorem beginQueueOrProgress_cases (s : State) :
    beginQueueOrProgress s = s ∨ beginQueueOrProgress s = beginProgress s ∨
      ∃ r rest, s.reports = r :: rest ∧ beginQueueOrProgress s = beginReport r rest s := by
  unfold beginQueueOrProgress
  split
  case h_1 =>
    split
    · exact .inr (.inl rfl)
    · exact .inl rfl
  case h_2 r rest hreports =>
    split
    · exact .inr (.inl rfl)
    · exact .inr (.inr ⟨r, rest, hreports, rfl⟩)

/-- A choice begins no frame, or one of the six kinds. -/
theorem choose_begins (s : State) :
    choose s = s ∨ choose s = beginStream s ∨ choose s = beginFlow s ∨
      (∃ a, choose s = beginAnswer a s) ∨ choose s = beginProgress s ∨
        ∃ r rest, s.reports = r :: rest ∧ choose s = beginReport r rest s := by
  unfold choose
  split
  case h_1 => exact .inl rfl
  case h_2 =>
    split
    · exact .inr (.inl rfl)
    · split
      · exact .inr (.inr (.inl rfl))
      · split
        · exact .inr (.inr (.inr (.inl ⟨_, rfl⟩)))
        · exact (beginQueueOrProgress_cases s).imp_right fun h => .inr (.inr (.inr h))

/-- The ring with a report added: beyond sixteen the earliest goes (R155). -/
theorem addToRing_eq (r : Report) (ring : List Report) :
    addToRing r ring = if ring.length < 16 then ring ++ [r] else ring.tail ++ [r] := by
  have hlength : Config.ringSize < (ring ++ [r]).length ↔ ¬ ring.length < 16 := by
    rw [List.length_append, List.length_singleton, Config.ringSize]
    omega
  rw [addToRing, if_congr hlength rfl rfl]
  by_cases h : ring.length < 16
  · rw [if_pos h, if_neg (not_not.mpr h)]
  · have hne : ring ≠ [] := fun hnil => h (by rw [hnil]; exact Nat.zero_lt_succ _)
    rw [if_neg h, if_pos h, List.tail_append_of_ne_nil hne]

/-- Settles O47: by the source that waits, and by the turn where queue and PROGRESS both do. -/
theorem transmitterChoice : Obligations.TransmitterChoice := by
  refine fun s => ⟨fun f hbusy => by rw [choose, hbusy], fun hfree hstream => ?_,
    fun hfree hstream hflow => ?_, fun hfree hstream hflow => ⟨fun a hslot => ?_, fun hslot => ?_⟩⟩
  · exact choose_of_stream hfree hstream
  · exact ⟨congestedSet s, getLsbD_portSetOf _, choose_of_flow hfree hstream hflow⟩
  · exact choose_of_slot hfree hstream hflow hslot
  · rw [choose_of_turn hfree hstream hflow hslot]
    refine ⟨fun r rest hreports hturn => ?_, fun hprogress hturn => ?_,
      fun hprogress hreports => ?_⟩
    · have hqueue : ¬ (s.progressPending && s.turn == .queue) = true := fun h => by
        obtain ⟨hprogress, hqueue⟩ := Bool.and_eq_true_iff.mp h
        rw [hturn hprogress] at hqueue
        cases hqueue
      rw [beginQueueOrProgress, hreports, ← addToRing_eq]
      exact if_neg hqueue
    · have hbegin : beginQueueOrProgress s = beginProgress s := by
        unfold beginQueueOrProgress
        split
        case h_1 => exact if_pos hprogress
        case h_2 r rest hreports =>
          have hqueue := hturn.resolve_left (by rw [hreports]; nofun)
          exact if_pos (by rw [hprogress, hqueue]; rfl)
      rw [hbegin, beginProgress_eq]; rfl
    · rw [beginQueueOrProgress, hreports]
      exact if_neg (by rw [hprogress]; nofun)

/-! ### What the end of an event writes -/

/-- A decision writes no field that lasts beyond the end of an event. -/
theorem Decided.durable_eq {s t : State} (h : Decided s t) : t.durable = s.durable :=
  calc
    t.durable = (s.decidedAs t).durable := congrArg State.durable h
    _ = s.durable := rfl

theorem durable_choose (s : State) : (choose s).durable = s.durable := by
  have hprogress : (beginProgress s).durable = s.durable := by
    have hports : (s.ports.map Port.durable).map Port.durable = s.ports.map Port.durable := by
      rw [Vector.map_map]; rfl
    rw [beginProgress_eq]
    unfold State.durable
    dsimp only
    rw [hports]
  obtain h | h | h | ⟨a, h⟩ | h | ⟨r, rest, -, h⟩ := choose_begins s
  · rw [h]
  · rw [h]; rfl
  · rw [h]; rfl
  · rw [h]; rfl
  · rw [h, hprogress]
  · rw [h]; rfl

/-- Settles O45: the scan condition and the arbiter write what a decision may, and the choice clears
dirty flags besides the transmitter's own fields. -/
theorem endOfEventKeeps : Obligations.EndOfEventKeeps := fun s =>
  calc
    (endEvent s).durable = (choose (evalScan s)).durable := (endEvent_frame s).durable_eq
    _ = (evalScan s).durable := durable_choose _
    _ = s.durable := (decided_evalScan s).durable_eq

/-! ### What the end of an event leaves -/

theorem scanCondition_iff (s : State) : Sys2Proof.Claim.scanCondition s ↔ scanDue s = true := by
  simp only [scanDue_iff, Sys2Proof.Claim.scanCondition, fun p => listening p s]

theorem scanBecomesPending : Sys2Proof.Claim.ScanBecomesPending := by
  intro s
  rw [scanCondition_iff]
  exact ⟨fun hdue => if_pos hdue, evalScan_of_not_due⟩

theorem eventEnds : Sys2Proof.Claim.EventEnds := by
  refine fun s => ⟨⟨_, _, _, _, rfl, rfl, rfl, rfl, rfl⟩, rfl, fun h => if_neg fun hboth => ?_⟩
  obtain ⟨hdue, hidle⟩ := Bool.and_eq_true_iff.mp hboth
  obtain hbus | hnone := h
  · exact hbus (beq_iff_eq.mp hidle)
  · rw [hnone] at hdue; cases hdue

/-- On a FREE line at rest no source waits. -/
theorem Rests.sources_clear {s : State} (h : Rests s) (hfree : s.line = .free) :
    s.streamPending = false ∧ s.flowPending = false ∧ s.slot = none ∧ s.reports = [] ∧
      s.progressPending = false := by
  have hnone := h.sources hfree
  simpa [sourceWaiting, and_assoc] using hnone

theorem nothingLeft : Sys2Proof.Claim.NothingLeft := fun s =>
  have hrests := rests_endEvent s
  ⟨endEvent_of_rests hrests, hrests.decision, hrests.sources_clear,
    mt (scanCondition_iff _).mp hrests.scan⟩

/-- Settles O46: the scan condition as `scanDue` reads it, the end of an event as it is defined, and
a state at rest after it. -/
theorem endOfEventSettles : Obligations.EndOfEventSettles :=
  ⟨scanBecomesPending, eventEnds, nothingLeft⟩

/-! ### The edges of RESET -/

/-- No port listens after a reset, so no scan becomes PENDING (R129). -/
theorem evalScan_of_resetPorts {s : State} (h : ∀ p, s.port p = resetPort) : evalScan s = s := by
  refine evalScan_of_not_due fun hdue => ?_
  obtain ⟨-, -, -, -, p, hp⟩ := (scanDue_iff s).mp hdue
  rw [h] at hp
  cases hp

/-- STREAM is pending on the FREE line, and the bus is QUIET (R159). -/
theorem endEvent_pinReset (rate : Rate) (s : State) :
    endEvent (pinReset rate false s) = beginStream (pinReset rate false s) := by
  have hchoose : choose (pinReset rate false s) = beginStream (pinReset rate false s) := rfl
  have harbitrate : arbitrate (beginStream (pinReset rate false s)) =
      beginStream (pinReset rate false s) := rfl
  rw [endEvent, evalScan_of_resetPorts (s := pinReset rate false s) port_reset, hchoose, harbitrate,
    evalScan_of_resetPorts (s := beginStream (pinReset rate false s)) port_reset]
  rfl

theorem ofStraps_eq (rate1 rate0 : Bool) :
    Rate.ofStraps rate1 rate0 =
      if rate1 then (if rate0 then .r11 else .r10) else if rate0 then .r01 else .r00 := by
  cases rate1
  · cases rate0 <;> rfl
  · cases rate0 <;> rfl

/-- Settles O5: both edges take the pin-reset values, and the release begins the STREAM frame that
they leave pending. -/
theorem pinResetEdges : Obligations.PinReset := by
  refine fun s => ⟨rfl, fun rate1 rate0 => ?_⟩
  rw [← ofStraps_eq]
  exact congrArg Host.Outcome.next (endEvent_pinReset _ s)

/-! ### The answer slot -/

/-- A command of a host frame is carried where the frame keeps its bound. -/
theorem carried_eq_frameBounded {c : Instr} {f : HostFrame} (hf : hostFrameOf c = some f) :
    c.carried = frameBounded f := by
  cases c with
  | send | call | fetch => cases hf; rfl
  | _ => cases hf <;> rfl

theorem answerOverrun : Sys2Proof.Claim.AnswerOverrun := by
  intro c s hrun hslot hframe
  have hoccupied : ∀ f, forSlot f (frameReceived s) = bump .answerOverrun (frameReceived s) :=
    fun _ => if_pos hslot
  obtain ⟨f, hf, ⟨tag, kind, hi, lo, rfl⟩ | ⟨rc, rfl⟩⟩ := hframe
  · rw [exec_of_carried_hostFrame hf (carried_eq_frameBounded hf) hrun, serve, hoccupied]
  · rw [exec_of_carried_hostFrame hf (carried_eq_frameBounded hf) hrun, serve, hoccupied]

/-- A RECALL that finds the slot empty is answered from the ring. -/
theorem exec_recall_empty {s : State} (hrun : s.resetHeld = false) (hslot : s.slot = none)
    (rc : Count) :
    exec (.recall rc) s = .next (endEvent (answerRecall rc (frameReceived s))) := by
  have hempty : ¬ (frameReceived s).slot.isSome = true := by
    rw [show (frameReceived s).slot = none from hslot]; nofun
  rw [exec_of_carried_hostFrame rfl rfl hrun, serve, forSlot, if_neg hempty]

theorem answerRecall_hit {s : State} {rc : Count} {r : Report} {before after : List Report}
    (hring : s.ring = before ++ r :: after) (hr : r.rc = rc) (hbefore : ∀ x ∈ before, x.rc ≠ rc) :
    answerRecall rc s = placeAnswer (.recallCopy r) s := by
  have hfind : s.ring.find? (fun r => r.rc == rc) = some r :=
    List.find?_eq_some_iff_append.mpr
      ⟨beq_iff_eq.mpr hr, before, after, hring, fun x hx => by simpa using hbefore x hx⟩
  rw [answerRecall, hfind]

theorem answerRecall_miss {s : State} {rc : Count} (h : ∀ r ∈ s.ring, r.rc ≠ rc) :
    answerRecall rc s =
      bump .recallMiss (placeAnswer (.recallMiss rc (ringBounds s.ring) s.nextRC) s) := by
  have hfind : s.ring.find? (fun r => r.rc == rc) = none :=
    List.find?_eq_none.mpr fun r hr => by simpa using h r hr
  rw [answerRecall, hfind]

theorem ringBounds_cons (a : Report) (rest : List Report) :
    ringBounds (a :: rest) = some (a.rc, ((a :: rest).getLast (List.cons_ne_nil a rest)).rc) := by
  rw [ringBounds, List.getLast?_eq_some_getLast (List.cons_ne_nil a rest)]; rfl

theorem recallFromRing : Sys2Proof.Claim.Recall := by
  intro rc s u hrun hslot hu
  subst hu
  rw [exec_recall_empty hrun hslot]
  refine ⟨fun r before after hring hr hbefore => ?_, fun hmiss => ⟨ringBounds s.ring, ?_, ?_, ?_⟩⟩
  · rw [answerRecall_hit (s := frameReceived s) hring hr hbefore]; rfl
  · rw [answerRecall_miss (s := frameReceived s) hmiss]; rfl
  · intro hempty
    rw [hempty]; rfl
  · intro a rest hring
    rw [hring]
    exact ringBounds_cons a rest

/-- Settles O50: an occupied slot is an overrun, and an empty one is filled from the ring. -/
theorem recallAndOverrun : Obligations.RecallAndOverrun := ⟨answerOverrun, recallFromRing⟩

end Sys2Proof.Machine
end

section
/-! PROOF. The books of the report unit: the reservations with their holders (R138, R141), the
report counts (R139, R155) and the PROGRESS flag (R146), and what the shared operations do to them
(`KeepsBooks`). -/

namespace Sys2Proof.Machine

-- One proof is elaborated at a time: many at once would each hold a thread's stack.
set_option Elab.async false

/-! ### Consecutive report counts -/

/-- The `n` report counts before `next` (R139). -/
def countsBefore (next : Count) (n : Nat) : List Count :=
  (List.range n).map fun i => next - BitVec.ofNat 16 (n - i)

/-- Reports with consecutive counts, the last just before `next` (R139). -/
def Consecutive (next : Count) (l : List Report) : Prop :=
  l.map Report.rc = countsBefore next l.length

theorem countsConsecutive_iff (s : State) :
    CountsConsecutive s ↔ s.ring.length ≤ 16 ∧ Consecutive s.nextRC (s.ring ++ s.reports) := Iff.rfl

theorem countsBefore_add_one (next : Count) (n : Nat) :
    countsBefore (next + 1#16) (n + 1) = countsBefore next n ++ [next] := by
  have hcount : ∀ i, i ≤ n →
      next + 1#16 - BitVec.ofNat 16 (n + 1 - i) = next - BitVec.ofNat 16 (n - i) := fun i hi => by
    rw [Nat.succ_sub hi, Nat.succ_eq_add_one, BitVec.ofNat_add]
    exact add_sub_add_right_eq_sub _ _ _
  rw [countsBefore, List.range_succ, List.map_append, List.map_singleton, hcount n le_rfl,
    Nat.sub_self, countsBefore]
  congr 1
  · exact List.map_congr_left fun i hi => hcount i (List.mem_range.mp hi).le
  · exact congrArg ([·]) (sub_zero next)

theorem countsBefore_succ (next : Count) (n : Nat) :
    countsBefore next (n + 1) = (next - BitVec.ofNat 16 (n + 1)) :: countsBefore next n := by
  rw [countsBefore, List.range_succ_eq_map, List.map_cons, List.map_map, Nat.sub_zero, countsBefore]
  congr 1
  exact List.map_congr_left fun i _ => by
    rw [Function.comp_apply, Nat.succ_eq_add_one, Nat.add_sub_add_right]

theorem Consecutive.concat {next : Count} {l : List Report} (h : Consecutive next l)
    (b : ReportBody) : Consecutive (next + 1#16) (l ++ [⟨next, b⟩]) := by
  rw [Consecutive, List.map_append, h, List.length_append, List.length_singleton,
    countsBefore_add_one]
  rfl

theorem Consecutive.tail {next : Count} {l : List Report} (h : Consecutive next l) :
    Consecutive next l.tail := by
  cases l with
  | nil => exact h
  | cons r l =>
    rw [Consecutive, List.length_cons, countsBefore_succ] at h
    exact (List.cons.inj h).2

/-- The queue head joins the ring, whose earliest report goes beyond sixteen (R155). -/
theorem Consecutive.addToRing {next : Count} {ring rest : List Report} {r : Report}
    (h : Consecutive next (ring ++ r :: rest)) :
    Consecutive next (addToRing r ring ++ rest) := by
  rw [addToRing_eq]
  split
  case isTrue => rwa [List.append_cons] at h
  case isFalse hfull =>
    have hne : ring ≠ [] := fun hnil => hfull (by rw [hnil]; exact Nat.zero_lt_succ _)
    have htail := h.tail
    rwa [List.tail_append_of_ne_nil hne, List.append_cons] at htail

theorem length_addToRing_le {r : Report} {ring : List Report} (h : ring.length ≤ 16) :
    (addToRing r ring).length ≤ 16 := by
  rw [addToRing_eq]
  split
  · rw [List.length_append, List.length_singleton]; omega
  · rw [List.length_append, List.length_tail, List.length_singleton]; omega

/-! ### Holders of reservations -/

/-- The state is that of a port CLOSING. -/
def PortState.isClosing : PortState → Bool
  | .closing _ => true
  | _ => false

theorem isClosing_eq (s : State) (p : PortNo) : isClosing s p = (s.port p).state.isClosing := by
  unfold isClosing
  cases (s.port p).state <;> rfl

/-- The entry is GATHERING. -/
def FenceEntry.isGathering : FenceEntry → Bool
  | .free => false
  | .gathering _ => true

theorem gathering_eq (s : State) (i : FenceNo) : gathering s i = (s.fence i).isGathering := by
  unfold gathering
  cases s.fence i <;> rfl

/-- The reservations that are called for: one by each GATHERING entry and each port CLOSING, and one
by a CALL, FETCH or POLL in flight (R141). -/
def holders (s : State) : Nat :=
  (allFences.filter (gathering s)).length + (allPorts.filter (isClosing s)).length +
    transactionHolds s

/-- The holders are as many where the same entries gather, the same ports close, and the bus holds
as many. -/
theorem holders_congr {s t : State} (hgathering : ∀ i, gathering t i = gathering s i)
    (hclosing : ∀ p, isClosing t p = isClosing s p)
    (hbus : transactionHolds t = transactionHolds s) : holders t = holders s := by
  rw [holders, holders, funext hgathering, funext hclosing, hbus]

/-- One element more passes the filter. -/
theorem length_filter_add_one {α : Type} {l : List α} (hl : l.Nodup) {a : α} (ha : a ∈ l)
    {f g : α → Bool} (hf : f a = false) (hg : g a = true) (h : ∀ b, b ≠ a → g b = f b) :
    (l.filter g).length = (l.filter f).length + 1 := by
  induction l with
  | nil => cases ha
  | cons b l ih =>
    obtain ⟨hb, hl⟩ := List.nodup_cons.mp hl
    by_cases hba : b = a
    · subst hba
      have hrest : l.filter g = l.filter f :=
        List.filter_congr fun c hc => h c (ne_of_mem_of_not_mem hc hb)
      rw [List.filter_cons_of_pos hg, List.filter_cons_of_neg (by rw [hf]; nofun), hrest,
        List.length_cons]
    · have hrest := ih hl (by simpa [Ne.symm hba] using ha)
      rw [List.filter_cons, List.filter_cons, h b hba]
      split
      · rw [List.length_cons, List.length_cons, hrest]
      · exact hrest

/-- A port that begins to close is one holder more. -/
theorem holders_of_closing {s t : State} {p : PortNo} (hs : isClosing s p = false)
    (ht : isClosing t p = true) (hother : ∀ q, q ≠ p → t.port q = s.port q)
    (hfences : t.fences = s.fences) (hbus : t.bus = s.bus) : holders t = holders s + 1 := by
  have hports := length_filter_add_one (by decide) (mem_allPorts p) hs ht
    fun q hq => by rw [isClosing_eq, isClosing_eq, hother q hq]
  have hgathering : gathering t = gathering s := funext fun i => by
    rw [gathering, gathering, State.fence, State.fence, hfences]
  have hholds : transactionHolds t = transactionHolds s := by
    rw [transactionHolds, transactionHolds, hbus]
  rw [holders, holders, hports, hgathering, hholds]
  omega

/-- An entry that begins to gather is one holder more. -/
theorem holders_of_gathering {s t : State} {i : FenceNo} (hs : gathering s i = false)
    (ht : gathering t i = true) (hother : ∀ j, j ≠ i → t.fence j = s.fence j)
    (hports : t.ports = s.ports) (hbus : t.bus = s.bus) : holders t = holders s + 1 := by
  have hfences := length_filter_add_one (by decide) (mem_allFences i) hs ht
    fun j hj => by rw [gathering_eq, gathering_eq, hother j hj]
  have hclosing : isClosing t = isClosing s := funext fun p => by
    rw [isClosing, isClosing, State.port, State.port, hports]
  have hholds : transactionHolds t = transactionHolds s := by
    rw [transactionHolds, transactionHolds, hbus]
  rw [holders, holders, hfences, hclosing, hholds]
  omega

/-! ### Spare reservations -/

/-- Of the reservations `k` are spare, having no holder; entries and awaited transactions are as the
law of reservations asks (R90, R138, R141). -/
structure Spare (k : Nat) (s : State) : Prop where
  reserved : s.reservations = holders s + k
  inUse : s.reports.length + s.reservations ≤ 32
  awaited : noSendAwaited s = true

theorem spare_zero_iff (s : State) : Spare 0 s ↔ ReservationsHeld s :=
  ⟨fun h => ⟨h.reserved, h.inUse, h.awaited⟩, fun ⟨hreserved, hinUse, hawaited⟩ =>
    ⟨hreserved, hinUse, hawaited⟩⟩

/-- With the queue and the count of reservations as they were, what the holders give up is spare. -/
theorem Spare.of_holders {j k : Nat} {s t : State} (h : Spare j s)
    (hholders : holders t + k = holders s + j)
    (hawaited : noSendAwaited s = true → noSendAwaited t = true)
    (hreports : t.reports = s.reports := by rfl)
    (hreservations : t.reservations = s.reservations := by rfl) : Spare k t where
  reserved := by rw [hreservations, h.reserved, hholders]
  inUse := by rw [hreports, hreservations]; exact h.inUse
  awaited := hawaited h.awaited

theorem Spare.use {k : Nat} {s : State} (h : Spare (k + 1) s) (b : ReportBody) :
    Spare k (useReservation b s) := by
  have hreserved := h.reserved
  have hinUse := h.inUse
  refine ⟨?_, ?_, h.awaited⟩
  · change s.reservations - 1 = holders s + k
    omega
  · change (s.reports ++ [_]).length + (s.reservations - 1) ≤ 32
    rw [List.length_append, List.length_singleton]
    omega

theorem Spare.give {k : Nat} {s : State} (h : Spare (k + 1) s) : Spare k (returnReservation s) := by
  have hreserved := h.reserved
  have hinUse := h.inUse
  refine ⟨?_, ?_, h.awaited⟩
  · change s.reservations - 1 = holders s + k
    omega
  · change s.reports.length + (s.reservations - 1) ≤ 32
    omega

theorem Spare.take {k : Nat} {s : State} (h : Spare k s) (hroom : entryFree s = true) :
    Spare (k + 1) (takeReservation s) where
  reserved := congrArg (· + 1) h.reserved
  inUse := (entryFree_iff s).mp hroom
  awaited := h.awaited

theorem Spare.queue {k : Nat} {s : State} (h : Spare k s) (hroom : entryFree s = true)
    (b : ReportBody) : Spare k (queueReport b s) where
  reserved := h.reserved
  inUse := by
    have hinUse : s.reports.length + s.reservations < 32 := (entryFree_iff s).mp hroom
    change (s.reports ++ [_]).length + s.reservations ≤ 32
    rw [List.length_append, List.length_singleton]
    omega
  awaited := h.awaited

/-! ### The three laws along an operation -/

/-- From `s` to `t` the laws of PROGRESS and of report counts are kept, and `j` spare reservations
become `k`. -/
structure KeepsBooks (j k : Nat) (s t : State) : Prop where
  progress : ProgressAgrees s → ProgressAgrees t
  counts : CountsConsecutive s → CountsConsecutive t
  spare : Spare j s → Spare k t

section
variable {j k l : Nat} {s t u : State}

theorem KeepsBooks.refl (s : State) : KeepsBooks k k s s := ⟨id, id, id⟩

theorem KeepsBooks.trans (h : KeepsBooks j k s t) (h' : KeepsBooks k l t u) :
    KeepsBooks j l s u :=
  ⟨h'.progress ∘ h.progress, h'.counts ∘ h.counts, h'.spare ∘ h.spare⟩

theorem progressAgrees_congr (hdirty : ∀ p, (t.port p).dirty = (s.port p).dirty)
    (hpending : t.progressPending = s.progressPending := by rfl) :
    ProgressAgrees s → ProgressAgrees t := by
  unfold ProgressAgrees
  simp only [hdirty, hpending]
  exact id

theorem countsConsecutive_congr (hring : t.ring = s.ring := by rfl)
    (hreports : t.reports = s.reports := by rfl) (hrc : t.nextRC = s.nextRC := by rfl) :
    CountsConsecutive s → CountsConsecutive t := by
  rw [countsConsecutive_iff, countsConsecutive_iff, hring, hreports, hrc]
  exact id

/-- A change of port records that keeps dirty flags and closes, and of fields that the laws do not
read. -/
theorem KeepsBooks.of_ports
    (hclosing : ∀ p, (t.port p).state.isClosing = (s.port p).state.isClosing)
    (hdirty : ∀ p, (t.port p).dirty = (s.port p).dirty)
    (hgathering : ∀ i, (t.fence i).isGathering = (s.fence i).isGathering := by exact fun _ => rfl)
    (hbus : t.bus = s.bus := by rfl)
    (hreports : t.reports = s.reports := by rfl)
    (hreservations : t.reservations = s.reservations := by rfl)
    (hring : t.ring = s.ring := by rfl) (hrc : t.nextRC = s.nextRC := by rfl)
    (hpending : t.progressPending = s.progressPending := by rfl) : KeepsBooks k k s t where
  progress := progressAgrees_congr hdirty hpending
  counts := countsConsecutive_congr hring hreports hrc
  spare h := by
    refine h.of_holders (congrArg (· + k) (holders_congr (fun i => ?_) (fun p => ?_) ?_)) ?_
      hreports hreservations
    · rw [gathering_eq, gathering_eq, hgathering]
    · rw [isClosing_eq, isClosing_eq, hclosing]
    · rw [transactionHolds, transactionHolds, hbus]
    · rw [noSendAwaited, noSendAwaited, hbus]; exact id

/-- A write of fields that the laws do not read. -/
theorem KeepsBooks.of_write (hports : t.ports = s.ports := by rfl)
    (hfences : t.fences = s.fences := by rfl) (hbus : t.bus = s.bus := by rfl)
    (hreports : t.reports = s.reports := by rfl)
    (hreservations : t.reservations = s.reservations := by rfl)
    (hring : t.ring = s.ring := by rfl) (hrc : t.nextRC = s.nextRC := by rfl)
    (hpending : t.progressPending = s.progressPending := by rfl) : KeepsBooks k k s t := by
  have hport : ∀ p, t.port p = s.port p := fun p => by rw [State.port, State.port, hports]
  have hfence : ∀ i, t.fence i = s.fence i := fun i => by rw [State.fence, State.fence, hfences]
  exact .of_ports (fun p => by rw [hport]) (fun p => by rw [hport]) (fun i => by rw [hfence]) hbus
    hreports hreservations hring hrc hpending

/-- A change of the bus, with what its transaction gives up spare. -/
theorem KeepsBooks.of_bus (hholds : transactionHolds t + k = transactionHolds s + j)
    (hawaited : noSendAwaited t = true) (hports : t.ports = s.ports := by rfl)
    (hfences : t.fences = s.fences := by rfl) (hreports : t.reports = s.reports := by rfl)
    (hreservations : t.reservations = s.reservations := by rfl)
    (hring : t.ring = s.ring := by rfl) (hrc : t.nextRC = s.nextRC := by rfl)
    (hpending : t.progressPending = s.progressPending := by rfl) : KeepsBooks j k s t := by
  have hsame : KeepsBooks j j s { t with bus := s.bus } :=
    .of_write hports hfences rfl hreports hreservations hring hrc hpending
  refine ⟨hsame.progress, hsame.counts, fun h => ?_⟩
  refine (hsame.spare h).of_holders (t := t) ?_ fun _ => hawaited
  change (allFences.filter (gathering t)).length + (allPorts.filter (isClosing t)).length +
      transactionHolds t + k =
    (allFences.filter (gathering t)).length + (allPorts.filter (isClosing t)).length +
      transactionHolds s + j
  omega

theorem keepsBooks_foldl {α : Type} (f : State → α → State) (h : ∀ s a, KeepsBooks k k s (f s a))
    (l : List α) (s : State) : KeepsBooks k k s (l.foldl f s) := by
  induction l generalizing s with
  | nil => exact .refl s
  | cons a l ih => exact (h s a).trans (ih (f s a))

/-! ### Reports and reservations -/

theorem counts_queueReport (b : ReportBody) (h : CountsConsecutive s) :
    CountsConsecutive (queueReport b s) := by
  obtain ⟨hring, hcounts⟩ := (countsConsecutive_iff s).mp h
  refine (countsConsecutive_iff _).mpr ⟨hring, ?_⟩
  have hlist := hcounts.concat b
  rwa [List.append_assoc] at hlist

theorem keepsBooks_useReservation (b : ReportBody) (s : State) :
    KeepsBooks (k + 1) k s (useReservation b s) :=
  ⟨id, counts_queueReport (s := { s with reservations := s.reservations - 1 }) b, (·.use b)⟩

theorem keepsBooks_returnReservation (s : State) :
    KeepsBooks (k + 1) k s (returnReservation s) := ⟨id, id, Spare.give⟩

theorem keepsBooks_takeReservation (h : entryFree s = true) :
    KeepsBooks k (k + 1) s (takeReservation s) := ⟨id, id, (·.take h)⟩

theorem keepsBooks_queueReport (h : entryFree s = true) (b : ReportBody) :
    KeepsBooks k k s (queueReport b s) := ⟨id, counts_queueReport b, (·.queue h b)⟩

/-! ### Port records and queues -/

theorem dirty_modPort {p : PortNo} {f : Port → Port}
    (hdirty : (f (s.port p)).dirty = (s.port p).dirty) (q : PortNo) :
    ((modPort p f s).port q).dirty = (s.port q).dirty := by
  rw [port_modPort]
  split
  case isTrue hq => subst hq; exact hdirty
  case isFalse => rfl

theorem keepsBooks_modPort {p : PortNo} {f : Port → Port}
    (hclosing : (f (s.port p)).state.isClosing = (s.port p).state.isClosing)
    (hdirty : (f (s.port p)).dirty = (s.port p).dirty) : KeepsBooks k k s (modPort p f s) := by
  refine .of_ports (fun q => ?_) (dirty_modPort hdirty)
  rw [port_modPort]
  split
  case isTrue hq => subst hq; exact hclosing
  case isFalse => rfl

/-- A port that begins to close takes a spare reservation (R66). -/
theorem keepsBooks_modPort_closing {p : PortNo} {f : Port → Port}
    (hopen : (s.port p).state.isClosing = false) (hclosing : (f (s.port p)).state.isClosing = true)
    (hdirty : (f (s.port p)).dirty = (s.port p).dirty) :
    KeepsBooks (k + 1) k s (modPort p f s) where
  progress := progressAgrees_congr (dirty_modPort hdirty)
  counts := id
  spare hspare := by
    have hholders : holders (modPort p f s) = holders s + 1 :=
      holders_of_closing (p := p) (by rw [isClosing_eq, hopen])
        (by rw [isClosing_eq, port_modPort, if_pos rfl, hclosing])
        (fun q hq => by rw [port_modPort, if_neg hq]) rfl rfl
    exact hspare.of_holders (by omega) id

/-- The reservation of a port that has closed is spare. -/
theorem keepsBooks_modPort_closed {p : PortNo} {f : Port → Port}
    (hclosing : (s.port p).state.isClosing = true)
    (hclosed : (f (s.port p)).state.isClosing = false)
    (hdirty : (f (s.port p)).dirty = (s.port p).dirty) :
    KeepsBooks k (k + 1) s (modPort p f s) where
  progress := progressAgrees_congr (dirty_modPort hdirty)
  counts := id
  spare hspare := by
    have hholders : holders s = holders (modPort p f s) + 1 :=
      holders_of_closing (p := p) (by rw [isClosing_eq, port_modPort, if_pos rfl, hclosed])
        (by rw [isClosing_eq, hclosing]) (fun q hq => by rw [port_modPort, if_neg hq]) rfl rfl
    exact hspare.of_holders (by omega) id

theorem keepsBooks_setPortState {p : PortNo} {st : PortState}
    (h : st.isClosing = (s.port p).state.isClosing) : KeepsBooks k k s (setPortState p st s) :=
  keepsBooks_modPort h rfl

theorem keepsBooks_setQueue (p : PortNo) (q : List Item) (s : State) :
    KeepsBooks k k s (setQueue p q s) :=
  (keepsBooks_modPort (f := fun x => { x with queue := q }) rfl rfl).trans .of_write

theorem keepsBooks_callArbiter_setQueue (p : PortNo) (q : List Item) (s : State) :
    KeepsBooks k k s (callArbiter (setQueue p q s)) := (keepsBooks_setQueue p q s).trans .of_write

theorem keepsBooks_appendItem (it : Item) (s : State) (p : PortNo) :
    KeepsBooks k k s (appendItem it s p) := by
  obtain ⟨-, h⟩ | ⟨-, h⟩ := appendItem_cases it s p
  · rw [h]; exact keepsBooks_callArbiter_setQueue p _ s
  · rw [h]; exact keepsBooks_setQueue p _ s

theorem keepsBooks_removeHead (p : PortNo) (s : State) : KeepsBooks k k s (removeHead p s) := by
  obtain ⟨-, h⟩ | ⟨it, rest, -, h⟩ := removeHead_cases p s
  · rw [h]; exact .refl s
  · rw [h]; exact keepsBooks_callArbiter_setQueue p rest s

/-- A settled count marks its port dirty and PROGRESS pending (R19, R146). -/
theorem keepsBooks_writeSettled (p : PortNo) (c : Count) (s : State) :
    KeepsBooks k k s (writeSettled p c s) := by
  have hrest : KeepsBooks k k s (modPort p (fun x => { x with settled := c }) s) :=
    keepsBooks_modPort rfl rfl
  have hport : ∀ q, ((writeSettled p c s).port q).state =
      ((modPort p (fun x => { x with settled := c }) s).port q).state := fun q => by
    rw [port_writeSettled, port_modPort]
    split <;> rfl
  refine ⟨fun _ => ?_, hrest.counts, fun h => (hrest.spare h).of_holders ?_ id⟩
  · refine (List.any_eq_true.mpr ⟨p, mem_allPorts p, ?_⟩).symm
    rw [port_writeSettled, if_pos rfl]
  · refine congrArg (· + k) (holders_congr (fun _ => rfl) (fun q => ?_) rfl)
    rw [isClosing, isClosing, hport]

theorem keepsBooks_settleHead (p : PortNo) (s : State) : KeepsBooks k k s (settleHead p s) := by
  obtain ⟨-, h⟩ | ⟨it, rest, -, h⟩ := settleHead_cases p s
  · rw [h]; exact .refl s
  · rw [h]; exact (keepsBooks_callArbiter_setQueue p rest s).trans (keepsBooks_writeSettled _ _ _)

theorem keepsBooks_setHeadCounters (p : PortNo) (f : Nat → Nat → Nat × Nat) (s : State) :
    KeepsBooks k k s (setHeadCounters p f s) := by
  obtain h | ⟨kind, st, d, a, b, rest, -, h⟩ := setHeadCounters_cases p f s
  · rw [h]; exact .refl s
  · rw [h]; exact keepsBooks_setQueue p _ s

theorem keepsBooks_stopBusyWait (p : PortNo) (s : State) : KeepsBooks k k s (stopBusyWait p s) :=
  keepsBooks_modPort rfl rfl

theorem keepsBooks_withFlags (f : State → State) (s : State) :
    KeepsBooks k k (f s) (withFlags f s) := by
  have heval : ∀ x y : Port, (evaluatedPort x y).state = y.state ∧
      (evaluatedPort x y).dirty = y.dirty := fun x y => by
    unfold evaluatedPort
    split <;> exact ⟨rfl, rfl⟩
  have hframe := withFlags_frame f s
  have hfence : ∀ i, (withFlags f s).fence i = (f s).fence i := fun i => by
    rw [State.fence, hframe]; rfl
  refine .of_ports (fun p => ?_) (fun p => ?_) (fun i => by rw [hfence]) ?_ ?_ ?_ ?_ ?_ ?_
  · rw [port_withFlags, (heval _ _).1]
  · rw [port_withFlags, (heval _ _).2]
  all_goals rw [hframe]

theorem KeepsBooks.withFlags {f : State → State} (h : KeepsBooks j k s (f s)) :
    KeepsBooks j k s (withFlags f s) := h.trans (keepsBooks_withFlags f s)

/-! ### Fences -/

/-- An entry that begins to gather takes a spare reservation (R116). -/
theorem keepsBooks_setFence_gathering {i : FenceNo} (h : s.fence i = .free) (g : Gathering) :
    KeepsBooks (k + 1) k s (setFence i (.gathering g) s) where
  progress := id
  counts := id
  spare hspare := by
    have hholders : holders (setFence i (.gathering g) s) = holders s + 1 :=
      holders_of_gathering (i := i) (by rw [gathering, h])
        (by rw [gathering, fence_setFence, if_pos rfl])
        (fun j hj => by rw [fence_setFence, if_neg hj]) rfl rfl
    exact hspare.of_holders (by omega) id

/-- The reservation of an entry that is freed is spare. -/
theorem keepsBooks_setFence_free {i : FenceNo} (h : gathering s i = true) :
    KeepsBooks k (k + 1) s (setFence i .free s) where
  progress := id
  counts := id
  spare hspare := by
    have hholders : holders s = holders (setFence i .free s) + 1 :=
      holders_of_gathering (i := i) (by rw [gathering, fence_setFence, if_pos rfl]) h
        (fun j hj => by rw [fence_setFence, if_neg hj]) rfl rfl
    exact hspare.of_holders (by omega) id

theorem keepsBooks_arrive (s : State) : KeepsBooks k k s (arrive s) := by
  have hframe := arrive_frame s
  refine .of_ports (fun p => by rw [port_arrive]) (fun p => by rw [port_arrive]) (fun i => ?_)
    (bus_arrive s) ?_ ?_ ?_ ?_ ?_
  · rw [← gathering_eq, ← gathering_eq, gathering_arrive]
  all_goals rw [hframe]

/-- A release turns the entry's reservation into its FENCE report (R117). -/
theorem keepsBooks_releaseFence (i : FenceNo) (s : State) :
    KeepsBooks k k s (releaseFence i s) := by
  unfold releaseFence
  split
  case h_1 => exact .refl s
  case h_2 g hg =>
    have hmembers : KeepsBooks k k s ((members g.members).foldl (releaseMember i g.stamp) s) :=
      keepsBooks_foldl _ (fun u p => by
        unfold releaseMember
        split
        · exact (keepsBooks_removeHead p u).trans (keepsBooks_writeSettled _ _ _)
        · exact keepsBooks_writeSettled _ _ _) _ s
    have hgathering :
        gathering ((members g.members).foldl (releaseMember i g.stamp) s) i = true := by
      rw [gathering_eq, foldl_releaseMember_frame i g.stamp (nodup_members g.members)]
      exact congrArg FenceEntry.isGathering hg
    exact (hmembers.trans (keepsBooks_setFence_free hgathering)).trans
      (keepsBooks_useReservation _ _)

theorem keepsBooks_settleFences (s : State) : KeepsBooks k k s (settleFences s) :=
  settleFences_induction (motive := fun s t => KeepsBooks k k s t) (fun s _ => keepsBooks_arrive s)
    (fun s i _ _ ih => ((keepsBooks_arrive s).trans (keepsBooks_releaseFence i _)).trans ih) s

theorem keepsBooks_removeMarker (i : FenceNo) (s : State) (p : PortNo) :
    KeepsBooks k k s (removeMarker i s p) := by
  unfold removeMarker
  dsimp only
  split
  · exact keepsBooks_callArbiter_setQueue p _ s
  · exact keepsBooks_setQueue p _ s

/-- The fence table may be written before markers are removed. -/
theorem removeMarker_setFence (i j : FenceNo) (e : FenceEntry) (s : State) (p : PortNo) :
    removeMarker i (setFence j e s) p = setFence j e (removeMarker i s p) := by
  have hhead : headIsMarker (setFence j e s) i p = headIsMarker s i p := rfl
  unfold removeMarker
  dsimp only
  rw [hhead]
  split <;> rfl

/-- A break turns the entry's reservation into its FENCE report (R121). -/
theorem keepsBooks_breakFence (p : PortNo) (reason : BreakReason) (s : State) (i : FenceNo) :
    KeepsBooks k k s (breakFence p reason s i) := by
  unfold breakFence
  split
  case h_1 => exact .refl s
  case h_2 g hg =>
    have hgathering : gathering s i = true := by rw [gathering, hg]
    rw [← List.foldl_hom (setFence i .free) fun u q => removeMarker_setFence i i .free u q]
    exact ((keepsBooks_setFence_free hgathering).trans (keepsBooks_useReservation _ _)).trans
      (keepsBooks_foldl _ (keepsBooks_removeMarker i) _ _)

theorem keepsBooks_placeFence (h : entryFree s = true) (stamp : Count) (m : PortSet) :
    KeepsBooks k k s (placeFence stamp m s) := by
  unfold placeFence
  split
  case h_1 => exact .refl s
  case h_2 i hi =>
    have hfree : s.fence i = .free := by simpa using List.find?_some hi
    have hentry : KeepsBooks k k s (takeReservation (setFence i (.gathering ⟨stamp, m, 0#16⟩) s)) :=
      (keepsBooks_takeReservation h).trans
        (keepsBooks_setFence_gathering (s := takeReservation s) hfree _)
    exact (hentry.trans (keepsBooks_foldl _ (keepsBooks_appendItem _) _ _)).trans
      (keepsBooks_settleFences _)

end

end Sys2Proof.Machine
end

section
/-! PROOF. The books of the report unit through closes, host frames and the outcomes of
transactions, each of which uses the reservation it holds or gives it back (R66, R78, R97, R103 to
R108, R132). -/

namespace Sys2Proof.Machine

-- One proof is elaborated at a time: many at once would each hold a thread's stack.
set_option Elab.async false

section
variable {k : Nat} {s : State}

/-! ### Discards and closes -/

theorem keepsBooks_discardQueue (p : PortNo) (reason : BreakReason) (s : State) :
    KeepsBooks k k s (discardQueue p reason s) := by
  have hempty : KeepsBooks k k s (emptyQueue p s) := by
    unfold emptyQueue
    dsimp only
    split
    · exact keepsBooks_callArbiter_setQueue p _ s
    · exact keepsBooks_setQueue p _ s
  exact hempty.trans (keepsBooks_foldl _ (keepsBooks_breakFence p reason) _ _)

theorem keepsBooks_modClosing (p : PortNo) (f : Closing → Closing) (s : State) :
    KeepsBooks k k s (modClosing p f s) := by
  unfold modClosing
  split
  case h_1 c hc => exact keepsBooks_setPortState (by rw [hc]; rfl)
  case h_2 => exact .refl s

theorem keepsBooks_discardForClose (p : PortNo) (reason : BreakReason) (s : State) :
    KeepsBooks k k s (discardForClose p reason s) :=
  (keepsBooks_discardQueue p reason s).trans (keepsBooks_modClosing p _ _)

/-- A port that reaches CLOSED turns its reservation into its CLOSED report (R78). -/
theorem keepsBooks_closePort (p : PortNo) (cause : ClosedCause) (s : State) :
    KeepsBooks k k s (closePort p cause s) := by
  unfold closePort
  split
  case h_1 c hc =>
    have hclosed : KeepsBooks k (k + 1) s (modPort p (fun x =>
        { x with state := .closed, busyWait := none, congested := false }) s) :=
      keepsBooks_modPort_closed (by rw [hc]; rfl) rfl rfl
    exact (hclosed.trans .of_write).trans (keepsBooks_useReservation _ _)
  case h_2 => exact .refl s

theorem keepsBooks_closeDonePorts (special : Option (PortNo × ClosedCause)) (s : State) :
    KeepsBooks k k s (closeDonePorts special s) := by
  refine keepsBooks_foldl _ (fun u p => ?_) allPorts s
  obtain h | ⟨c, cause, -, -, -, h⟩ := closeIfDone_cases special u p
  · rw [h]; exact .refl u
  · rw [h]; exact keepsBooks_closePort p cause u

theorem keepsBooks_afterHeads (special : Option (PortNo × ClosedCause)) (s : State) :
    KeepsBooks k k s (afterHeads special s) :=
  (keepsBooks_settleFences s).trans (keepsBooks_closeDonePorts special _)

/-- A close that begins takes the entry found free at its admission (R65, R66). -/
theorem keepsBooks_beginClose {p : PortNo} (hopen : (s.port p).state.isClosing = false)
    (hroom : entryFree s = true) (mode : CloseMode) (stamp : Count) :
    KeepsBooks k k s (beginClose p mode stamp s) :=
  (keepsBooks_takeReservation hroom).trans
    (keepsBooks_modPort_closing (s := takeReservation s)
      (f := fun x => { x with state := .closing ⟨mode, stamp, 0, none⟩ }) hopen rfl rfl)

theorem keepsBooks_closeEffect {p : PortNo} {mode : CloseMode}
    (h : closeDecision (s.port p).state mode (entryFree s) = .accept) (stamp : Count) :
    KeepsBooks k k s (closeEffect p mode stamp s) := by
  have hbegin : ∀ mode', (s.port p).state = .opened ∨ (∃ f, (s.port p).state = .faulted f) →
      KeepsBooks k k s (beginClose p mode' stamp s) := fun mode' hopen => by
    rw [closeDecision_open hopen] at h
    split_ifs at h with hroom
    refine keepsBooks_beginClose ?_ hroom mode' stamp
    obtain hstate | ⟨f, hstate⟩ := hopen
    · rw [hstate]; rfl
    · rw [hstate]; rfl
  unfold closeEffect
  split
  case h_1 hstate => exact (hbegin _ (.inl hstate)).trans (keepsBooks_closeDonePorts _ _)
  case h_2 hstate =>
    exact (((hbegin _ (.inl hstate)).trans (keepsBooks_discardForClose p _ _)).trans
      (keepsBooks_stopBusyWait p _)).trans (keepsBooks_afterHeads _ _)
  case h_3 f hstate =>
    exact ((hbegin _ (.inr ⟨f, hstate⟩)).trans (keepsBooks_discardForClose p _ _)).trans
      (keepsBooks_afterHeads _ _)
  case h_4 =>
    exact (((keepsBooks_modClosing p _ s).trans (keepsBooks_discardForClose p _ _)).trans
      (keepsBooks_stopBusyWait p _)).trans (keepsBooks_afterHeads _ _)
  case h_5 => exact .refl s

/-! ### Frames of the uplink -/

theorem keepsBooks_counted {stamp : Count} {ty : Byte} {verdict : State → Verdict}
    {effect : State → State} (h : verdict s = .accept → KeepsBooks k k s (effect s)) :
    KeepsBooks k k s (counted stamp ty verdict effect s) := by
  have hadvance : ∀ u, KeepsBooks k k u (advanceAC u) := fun u => .of_write
  obtain h' | ⟨-, -, h'⟩ | h' | h' := counted_cases stamp ty verdict effect s
  · rw [h']; exact .of_write
  · obtain ⟨hv, h''⟩ | ⟨r, -, hroom, h''⟩ | ⟨d, h''⟩ :=
      admission_cases stamp ty (verdict s) effect s
    · rw [h', h'']; exact (h hv).withFlags.trans (hadvance _)
    · rw [h', h'']; exact (keepsBooks_queueReport hroom _).trans (hadvance _)
    · rw [h', h'']; exact .of_write
  · rw [h']; exact .of_write
  · rw [h']; exact .of_write

theorem keepsBooks_onPort {port : Byte} {f : PortNo → State → State}
    (h : ∀ p, portOfByte port = some p → KeepsBooks k k s (f p s)) :
    KeepsBooks k k s (onPort port f s) := by
  unfold onPort
  split
  · exact .refl s
  case h_2 p hp => exact h p hp

/-- An admitted FENCE has found an entry free (R58). -/
theorem entryFree_of_fenceVerdict {m : PortSet} (h : fenceVerdict m s = .accept) :
    entryFree s = true := by
  unfold fenceVerdict at h
  split_ifs at h with hmembers htable hquota hfree hreports
  simpa using hreports

/-- An admitted MARK with the echo flag has found an entry free (R59). -/
theorem keepsBooks_markEffect {echo : Byte} (h : markVerdict echo s = .accept) (stamp : Count) :
    KeepsBooks k k s (markEffect stamp echo s) := by
  unfold markVerdict at h
  split_ifs at h with hcode hfull
  unfold markEffect
  split
  case isTrue hyes => exact keepsBooks_queueReport (by simpa [hyes] using hfull) _
  case isFalse => exact .refl s

theorem keepsBooks_openPort {p : PortNo} (h : (s.port p).state = .closed) (stamp : Count)
    (params : OpenParams) : KeepsBooks k k s (openPort p stamp params s) := by
  have hopen : KeepsBooks k k s (modPort p (fun x =>
      { x with state := .opened, params := params, busyWait := none }) s) :=
    keepsBooks_modPort (by rw [h]; rfl) rfl
  exact hopen.trans (keepsBooks_writeSettled _ _ _)

theorem keepsBooks_admittedOpen {port : Byte} {params : OpenParams}
    (h : openVerdict port params s = .accept) (stamp : Count) :
    KeepsBooks k k s (onPort port (fun p s => openPort p stamp params s) s) := by
  obtain ⟨p, hp, hclosed, -⟩ := openVerdict_accept h
  rw [onPort_of_port hp]
  exact keepsBooks_openPort hclosed stamp params

theorem keepsBooks_closeFrameEffect {port mode : Byte} (h : closeVerdict port mode s = .accept)
    (stamp : Count) : KeepsBooks k k s (closeFrameEffect stamp port mode s) := by
  unfold closeFrameEffect
  split
  case h_1 => exact .refl s
  case h_2 md hm =>
    refine keepsBooks_onPort fun p hp => keepsBooks_closeEffect ?_ stamp
    rwa [closeVerdict_of_port hp hm] at h

theorem keepsBooks_setupEffect (code reserve enable : Byte) (s : State) :
    KeepsBooks k k s (setupEffect code reserve enable s) := by
  have hwrite : ∀ on u, KeepsBooks k k u (writeScanEnable on u) := fun on u => by
    rw [writeScanEnable_eq]; exact .of_write
  exact KeepsBooks.trans .of_write (hwrite _ _)

theorem keepsBooks_tendEffect {p : PortNo} {cause : FaultCause}
    (h : (s.port p).state = .faulted cause) (a : TendAction) :
    KeepsBooks k k s (tendEffect p a s) := by
  have hopen : KeepsBooks k k s (setPortState p .opened s) :=
    keepsBooks_setPortState (by rw [h]; rfl)
  have hcall : ∀ t, KeepsBooks k k t (callArbiter t) := fun t => .of_write
  refine KeepsBooks.trans ?_ (hcall _)
  cases a with
  | retry => exact hopen.trans (keepsBooks_setHeadCounters p _ _)
  | skip => exact (hopen.trans (keepsBooks_settleHead p _)).trans (keepsBooks_afterHeads none _)
  | flush =>
    exact (hopen.trans (keepsBooks_discardQueue p .flush _)).trans (keepsBooks_afterHeads none _)

theorem keepsBooks_tend (port action : Byte) (s : State) :
    KeepsBooks k k s (tend port action s) := by
  unfold tend
  split
  · split
    case h_1 h => exact (keepsBooks_tendEffect h _).withFlags
    case h_2 => exact .of_write
  · exact .of_write

theorem keepsBooks_answerQuery (tag kind argHi argLo : Byte) (s : State) :
    KeepsBooks k k s (answerQuery tag kind argHi argLo s) := by
  unfold answerQuery
  split
  · exact .of_write
  · split <;> exact .of_write
  · split <;> exact .of_write
  · split
    · exact .of_write
    · split <;> exact .of_write
  · exact .of_write
  · exact .of_write

theorem keepsBooks_answerRecall (rc : Count) (s : State) :
    KeepsBooks k k s (answerRecall rc s) := by
  unfold answerRecall
  split <;> exact .of_write

theorem keepsBooks_forSlot {f : State → State} (h : KeepsBooks k k s (f s)) :
    KeepsBooks k k s (forSlot f s) := by
  unfold forSlot
  split
  · exact .of_write
  · exact h

theorem keepsBooks_resume (mode : Byte) (count : Count) (s : State) :
    KeepsBooks k k s (resume mode count s) := by
  unfold resume
  split <;> exact .of_write

/-- RESTART abandons the transaction, so the bus holds no reservation (R111). -/
theorem transactionHolds_restartEffect (s : State) :
    transactionHolds (restartEffect s) = 0 ∧ noSendAwaited (restartEffect s) = true := by
  have hbus : (restartEffect s).bus = abandonedBus s := rfl
  rw [transactionHolds, noSendAwaited, hbus, abandonedBus]
  cases s.bus <;> exact ⟨rfl, rfl⟩

/-- RESTART clears reports, reservations and dirty flags, and abandons the transaction (R45, R46,
R111). -/
theorem keepsBooks_restartEffect (s : State) : KeepsBooks k 0 s (restartEffect s) := by
  obtain ⟨-, -, hcounts, hprogress, -⟩ := resetKeepsTheLaws
  obtain ⟨hholds, hawaited⟩ := transactionHolds_restartEffect s
  have hfences : (allFences.filter (gathering (restartEffect s))).length = 0 := rfl
  have hports : (allPorts.filter (isClosing (restartEffect s))).length = 0 := rfl
  refine ⟨fun _ => hprogress, fun _ => hcounts, fun _ => ⟨?_, Nat.zero_le _, hawaited⟩⟩
  rw [holders, hfences, hports, hholds]; rfl

theorem keepsBooks_serve (f : HostFrame) (s : State) : KeepsBooks 0 0 s (serve f s) := by
  match f with
  | .job kind stamp port data =>
    exact keepsBooks_counted fun _ => keepsBooks_onPort fun p _ => keepsBooks_appendItem _ s p
  | .fence stamp m =>
    exact keepsBooks_counted fun h =>
      keepsBooks_placeFence (entryFree_of_fenceVerdict h) stamp m
  | .mark stamp echo => exact keepsBooks_counted fun h => keepsBooks_markEffect h stamp
  | .openPort stamp port params =>
    exact keepsBooks_counted fun h => keepsBooks_admittedOpen h stamp
  | .close stamp port mode => exact keepsBooks_counted fun h => keepsBooks_closeFrameEffect h stamp
  | .setup stamp code reserve enable =>
    exact keepsBooks_counted (verdict := fun _ => setupVerdict reserve enable)
      fun _ => keepsBooks_setupEffect code reserve enable s
  | .fill => exact .refl s
  | .resume mode count => exact keepsBooks_resume mode count s
  | .restart => exact keepsBooks_restartEffect s
  | .tend port action => exact keepsBooks_tend port action s
  | .query tag kind argHi argLo =>
    exact keepsBooks_forSlot (keepsBooks_answerQuery tag kind argHi argLo s)
  | .recall rc => exact keepsBooks_forSlot (keepsBooks_answerRecall rc s)

theorem keepsBooks_holdIfRunning (c : HoldCause) (s : State) :
    KeepsBooks k k s (holdIfRunning c s) := by
  obtain ⟨-, h⟩ | ⟨-, -, h⟩ := holdIfRunning_cases c s
  · rw [h]; exact .of_write
  · rw [h]; exact .refl s

/-! ### Outcomes of transactions -/

theorem keepsBooks_jobFinishes (p : PortNo) (s : State) : KeepsBooks k k s (jobFinishes p s) :=
  (keepsBooks_settleHead p s).trans (keepsBooks_afterHeads _ _)

theorem keepsBooks_jobWaits (p : PortNo) (s : State) : KeepsBooks k k s (jobWaits p s) := by
  unfold jobWaits
  split
  · exact ((keepsBooks_removeHead p s).trans (keepsBooks_modClosing p _ _)).trans
      (keepsBooks_closeDonePorts _ _)
  · exact .refl s

theorem keepsBooks_jobFailsPort (p : PortNo) (cause : FaultCause) (s : State) :
    KeepsBooks k k s (jobFailsPort p cause s) := by
  unfold jobFailsPort
  split
  case h_1 h => exact keepsBooks_setPortState (by rw [h]; rfl)
  case h_2 =>
    exact ((keepsBooks_removeHead p s).trans (keepsBooks_discardForClose p _ _)).trans
      (keepsBooks_afterHeads _ _)
  case h_3 => exact .refl s

/-- A job failure turns the transaction's reservation into its FAULT report (R108). -/
theorem keepsBooks_jobFails (kind : JobKind) (p : PortNo) (cause : FaultCause) (s : State) :
    KeepsBooks (k + 1) k s (jobFails kind p cause s) := by
  have hcounted : KeepsBooks (k + 1) (k + 1) s (bump .jobFailed s) := .of_write
  exact (hcounted.trans (keepsBooks_useReservation _ _)).trans (keepsBooks_jobFailsPort p cause _)

/-- A transaction is awaited. -/
def Awaits (s : State) : Prop := ∃ t d, s.bus = .awaiting t d

/-- The end of an awaited transaction, which is no SEND, leaves its reservation spare (R97,
R141). -/
theorem keepsBooks_dropTransaction (h : Awaits s) :
    KeepsBooks k (k + 1) s (dropTransaction s) := by
  obtain ⟨t, d, hbus⟩ := h
  refine ⟨id, id, fun hspare => ?_⟩
  have hkind : t.kind ≠ .job .send := by
    have hawaited := hspare.awaited
    rw [noSendAwaited, hbus] at hawaited
    exact bne_iff_ne.mp hawaited
  have hholds : transactionHolds s = 1 := by
    rw [transactionHolds, hbus]
    exact if_neg hkind
  have hdrop : KeepsBooks k (k + 1) s (dropTransaction s) :=
    .of_bus (by rw [hholds]; exact (Nat.zero_add _).trans (Nat.add_comm k 1)) rfl
  exact hdrop.spare hspare

theorem keepsBooks_attemptFails (h : Awaits s) (kind : JobKind) (p : PortNo) (cause : FaultCause) :
    KeepsBooks k k s (attemptFails kind p cause s) := by
  have hcount := (keepsBooks_dropTransaction (k := k) h).trans
    (keepsBooks_setHeadCounters p (fun a b => (a + 1, b)) _)
  unfold attemptFails
  dsimp only
  split
  · exact hcount.trans (keepsBooks_jobFails kind p cause _)
  · exact (hcount.trans (keepsBooks_returnReservation _)).trans (keepsBooks_jobWaits p _)

theorem keepsBooks_afterPoll (s : State) : KeepsBooks k k s (afterPoll s) := by
  unfold afterPoll
  split <;> exact .of_write

theorem keepsBooks_pollEnds_return (h : Awaits s) :
    KeepsBooks k k s (pollEnds (returnReservation s)) :=
  ((keepsBooks_dropTransaction h).trans (keepsBooks_returnReservation _)).trans
    (keepsBooks_afterPoll _)

theorem keepsBooks_pollEnds_use (h : Awaits s) (b : ReportBody) :
    KeepsBooks k k s (pollEnds (useReservation b s)) :=
  ((keepsBooks_dropTransaction h).trans (keepsBooks_useReservation b _)).trans
    (keepsBooks_afterPoll _)

theorem keepsBooks_pollSilent (h : Awaits s) : KeepsBooks k k s (pollSilent s) :=
  KeepsBooks.trans .of_write (keepsBooks_pollEnds_return (s := bump .scanSilent s) h)

theorem keepsBooks_deadlineTaken (h : Awaits s) (t : Transaction) :
    KeepsBooks k k s (deadlineTaken t s) := by
  unfold deadlineTaken
  split
  · exact keepsBooks_pollSilent h
  · exact KeepsBooks.trans .of_write (keepsBooks_attemptFails (s := bump .busTimeout s) h _ _ _)

theorem keepsBooks_badReply (h : Awaits s) (t : Transaction) :
    KeepsBooks k k s (badReply t s) := by
  unfold badReply
  split
  · exact keepsBooks_pollSilent h
  · exact KeepsBooks.trans .of_write (keepsBooks_attemptFails (s := bump .busBadReply s) h _ _ _)

/-- A FETCH's reservation becomes its REPLY report, and a CALL's returns (R103). -/
theorem keepsBooks_replyDone (h : Awaits s) (kind : JobKind) (p : PortNo) (data : List Byte) :
    KeepsBooks k k s (replyDone kind p data s) := by
  refine ((keepsBooks_dropTransaction h).trans ?_).trans (keepsBooks_jobFinishes p _)
  split
  · exact keepsBooks_useReservation _ _
  · exact keepsBooks_returnReservation _

theorem keepsBooks_replyBusy (h : Awaits s) (kind : JobKind) (p : PortNo) :
    KeepsBooks k k s (replyBusy kind p s) := by
  have hdrop : KeepsBooks k (k + 1) s (bump .busBusy (dropTransaction s)) :=
    (keepsBooks_dropTransaction h).trans .of_write
  have hreturn := (hdrop.trans (keepsBooks_setHeadCounters p (fun a b => (a, b + 1)) _)).trans
    (keepsBooks_returnReservation _)
  unfold replyBusy
  dsimp only
  split
  · split
    · exact hreturn.trans (keepsBooks_jobWaits p _)
    · exact (hreturn.trans (keepsBooks_modPort rfl rfl)).trans (keepsBooks_jobWaits p _)
  · exact hdrop.trans (keepsBooks_jobFails kind p _ _)

theorem keepsBooks_judgeJob (h : Awaits s) (job : JobKind) (t : Transaction) (kind : Byte)
    (data : List Byte) : KeepsBooks k k s (judgeJob job t kind data s) := by
  have hbad := keepsBooks_badReply (k := k) h t
  unfold judgeJob
  split
  · exact hbad
  · split
    · exact hbad
    · split
      · exact keepsBooks_replyDone h job t.port _
      · split
        · exact keepsBooks_replyBusy h job t.port
        · split
          · split
            · exact (keepsBooks_dropTransaction h).trans (keepsBooks_jobFails job t.port _ _)
            · exact hbad
          · exact hbad

theorem keepsBooks_judgePoll (h : Awaits s) (t : Transaction) (kind : Byte) (data : List Byte) :
    KeepsBooks k k s (judgePoll t kind data s) := by
  have hsilent := keepsBooks_pollSilent (k := k) h
  unfold judgePoll
  split
  · exact hsilent
  · split
    · exact hsilent
    · split
      · exact keepsBooks_pollEnds_use h _
      · split
        · exact keepsBooks_pollEnds_return h
        · exact hsilent

end

end Sys2Proof.Machine
end

section
/-! PROOF. The three laws of the report unit, kept by every step: along the characters and timers of
the pair, the transmitter's choice and the arbiter's decision (R92, R101, R138 to R146, R155). -/

namespace Sys2Proof.Machine

-- One proof is elaborated at a time: many at once would each hold a thread's stack.
set_option Elab.async false

/-! ### Characters and timers of the pair -/

section
variable {k : Nat} {s : State}

theorem keepsBooks_goodTribFrame (address kind : Byte) (data : List Byte) (s : State) :
    KeepsBooks k k s (goodTribFrame address kind data s) := by
  unfold goodTribFrame
  split
  case h_1 t d hbus =>
    have h : Awaits s := ⟨t, d, hbus⟩
    split
    · exact .of_write
    · split
      · exact keepsBooks_judgeJob h _ t kind data
      · exact keepsBooks_judgePoll h t kind data
  case h_2 => exact .of_write
  case h_3 => exact .of_write
  case h_4 => exact .refl s

theorem keepsBooks_damagedTribFrame (address : Option Byte) (s : State) :
    KeepsBooks k k s (damagedTribFrame address s) := by
  unfold damagedTribFrame
  split
  case h_1 t d hbus =>
    have h : Awaits s := ⟨t, d, hbus⟩
    split
    · split
      · exact keepsBooks_badReply h t
      · exact .refl s
    · split
      · exact keepsBooks_deadlineTaken h t
      · exact .refl s
  case h_2 => exact .refl s

/-- Whether the deadline runs is not told (R101). -/
theorem keepsBooks_deadline {t : Transaction} {d : Deadline} (h : s.bus = .awaiting t d)
    (e : Deadline) : KeepsBooks k k s { s with bus := .awaiting t e } := by
  refine ⟨id, id, fun hspare => hspare.of_holders ?_ ?_⟩
  · refine congrArg (· + k) (holders_congr (fun _ => rfl) (fun _ => rfl) ?_)
    rw [transactionHolds, transactionHolds, h]
  · rw [noSendAwaited, noSendAwaited, h]
    exact id

theorem keepsBooks_addressByte (a : Byte) (s : State) : KeepsBooks k k s (addressByte a s) := by
  unfold addressByte
  split
  case h_1 t d hbus =>
    split
    · exact keepsBooks_deadline hbus _
    · split
      · exact keepsBooks_deadlineTaken ⟨t, d, hbus⟩ t
      · exact .refl s
  case h_2 => exact .refl s

theorem keepsBooks_huntTrib (s : State) : KeepsBooks k k s (huntTrib s) := .of_write

theorem keepsBooks_endOfTribFrame (n : Nat) (bytes : List Byte) (s : State) :
    KeepsBooks k k s (endOfTribFrame n bytes s) := by
  unfold endOfTribFrame
  split
  · split
    · exact (keepsBooks_huntTrib s).trans (keepsBooks_goodTribFrame _ _ _ _)
    · exact (keepsBooks_huntTrib s).trans (keepsBooks_damagedTribFrame _ _)
  · exact .refl s

theorem keepsBooks_tribFrameByte (bytes : List Byte) (s : State) :
    KeepsBooks k k s (tribFrameByte bytes s) := by
  unfold tribFrameByte
  split
  · exact KeepsBooks.trans .of_write (keepsBooks_addressByte _ _)
  · split
    · exact (keepsBooks_huntTrib s).trans (keepsBooks_damagedTribFrame _ _)
    · exact .of_write
  · split
    · exact keepsBooks_endOfTribFrame _ _ s
    · exact .of_write
  · exact .of_write

theorem keepsBooks_tribChar (c : LineChar) (s : State) : KeepsBooks k k s (tribChar c s) := by
  unfold tribChar
  split
  · split
    · exact .of_write
    · exact .refl s
  · split
    · exact (keepsBooks_huntTrib s).trans (keepsBooks_damagedTribFrame _ _)
    · exact keepsBooks_tribFrameByte _ s

theorem keepsBooks_tribGapExpires (s : State) : KeepsBooks k k s (tribGapExpires s) := by
  unfold tribGapExpires
  split
  · exact .refl s
  · exact (keepsBooks_huntTrib s).trans (keepsBooks_damagedTribFrame _ _)

/-- A SEND holds no reservation (R97). -/
theorem keepsBooks_postSent (h : sendingPost s = true) : KeepsBooks k k s (postSent s) := by
  unfold sendingPost at h
  split at h
  case h_1 t hbus =>
    have hholds : transactionHolds s = 0 := by
      rw [transactionHolds, hbus]
      exact if_pos (beq_iff_eq.mp h)
    have hdrop : KeepsBooks k k s (dropTransaction s) := .of_bus (by rw [hholds]; rfl) rfl
    rw [postSent, hbus]
    exact hdrop.trans (keepsBooks_jobFinishes _ _)
  case h_2 => cases h

/-- A COMMAND or POLL frame has been sent, so no SEND is awaited (R100, R131). -/
theorem keepsBooks_commandSent (h : sendingCommand s = true ∨ sendingPoll s = true) :
    KeepsBooks k k s (commandSent s) := by
  cases hbus : s.bus with
  | idle | quiet | awaiting => simp [sendingCommand, sendingPoll, hbus] at h
  | sending t =>
    have hkind : t.kind ≠ .job .send := by
      intro hsend
      simp [sendingCommand, sendingPoll, hbus, hsend] at h
    rw [commandSent_eq hbus]
    refine .of_bus ?_ (bne_iff_ne.mpr hkind)
    rw [transactionHolds, transactionHolds, hbus]

theorem keepsBooks_deadlineExpires (s : State) : KeepsBooks k k s (deadlineExpires s) := by
  unfold deadlineExpires
  split
  case h_1 t d hbus =>
    split
    · exact keepsBooks_deadline hbus _
    · exact keepsBooks_deadlineTaken ⟨t, d, hbus⟩ t
  case h_2 => exact .refl s

theorem keepsBooks_releasePair (s : State) : KeepsBooks k k s (releasePair s) := by
  unfold releasePair
  split
  case h_1 n frame hbus => exact .of_bus (by rw [transactionHolds, transactionHolds, hbus]) rfl
  case h_2 => exact .refl s

theorem keepsBooks_endsQuiet (h : busQuiet s = true) : KeepsBooks k k s (dropTransaction s) := by
  unfold busQuiet at h
  split at h
  case h_1 n frame hbus =>
    exact .of_bus (by rw [transactionHolds, transactionHolds, hbus]; rfl) rfl
  case h_2 => cases h

/-- What an event does before its end keeps the books. -/
theorem keepsBooks_of_move {t : State} (h : Move s t) : KeepsBooks 0 0 s t := by
  cases h with
  | receives | hearsNoise | freesLine | sensesAttn => exact .of_write
  | serves f => exact KeepsBooks.trans .of_write (keepsBooks_serve f (frameReceived s))
  | findsMalformed | findsDamaged | losesLink =>
    exact KeepsBooks.trans .of_write (keepsBooks_holdIfRunning _ _)
  | hearsPair c => exact (keepsBooks_tribChar c s).withFlags
  | hearsFrame address kind data =>
    exact KeepsBooks.withFlags
      ((keepsBooks_huntTrib s).trans (keepsBooks_goodTribFrame address kind data _))
  | hearsGap => exact (keepsBooks_tribGapExpires s).withFlags
  | sentPost h => exact (keepsBooks_postSent h).withFlags
  | sentCommand h => exact keepsBooks_commandSent h
  | meetsDeadline => exact (keepsBooks_deadlineExpires s).withFlags
  | endsBusyWait p => exact (keepsBooks_stopBusyWait p s).trans .of_write
  | endsQuiet h => exact keepsBooks_endsQuiet h
  | releasesPair => exact keepsBooks_releasePair s

/-! ### The transmitter's choice -/

/-- A PROGRESS frame clears every dirty flag and PROGRESS (R146). -/
theorem keepsBooks_beginProgress (s : State) : KeepsBooks k k s (beginProgress s) := by
  have hport := port_beginProgress s
  have hframe := beginProgress_eq s
  refine ⟨fun _ => ?_, ?_, fun h => h.of_holders ?_ ?_ ?_ ?_⟩
  · have hclean : (allPorts.any fun p => ((beginProgress s).port p).dirty) = false := by
      simp [hport, Port.durable]
    rw [ProgressAgrees, hclean, hframe]
  · rw [hframe]; exact id
  · refine congrArg (· + k) (holders_congr (fun i => ?_) (fun p => ?_) ?_)
    · rw [gathering, gathering, State.fence, hframe]; rfl
    · rw [isClosing, isClosing, hport]; rfl
    · rw [transactionHolds, transactionHolds, hframe]
  · rw [noSendAwaited, noSendAwaited, hframe]; exact id
  · rw [hframe]
  · rw [hframe]

/-- The queue head leaves the queue and joins the ring, where its count is the next (R152, R155). -/
theorem keepsBooks_beginReport {r : Report} {rest : List Report} (h : s.reports = r :: rest) :
    KeepsBooks k k s (beginReport r rest s) where
  progress := id
  counts hs := by
    obtain ⟨hring, hcounts⟩ := (countsConsecutive_iff s).mp hs
    rw [h] at hcounts
    exact (countsConsecutive_iff _).mpr ⟨length_addToRing_le hring, hcounts.addToRing⟩
  spare hspare := by
    refine ⟨hspare.reserved, ?_, hspare.awaited⟩
    have hinUse := hspare.inUse
    rw [h, List.length_cons] at hinUse
    change rest.length + s.reservations ≤ 32
    omega

theorem keepsBooks_choose (s : State) : KeepsBooks k k s (choose s) := by
  obtain h | h | h | ⟨a, h⟩ | h | ⟨r, rest, hreports, h⟩ := choose_begins s
  · rw [h]; exact .refl s
  · rw [h]; exact .of_write
  · rw [h]; exact .of_write
  · rw [h]; exact .of_write
  · rw [h]; exact keepsBooks_beginProgress s
  · rw [h]; exact keepsBooks_beginReport hreports

/-! ### The decision and the end of an event -/

theorem keepsBooks_evalScan (s : State) : KeepsBooks k k s (evalScan s) := by
  obtain h | ⟨-, h⟩ := evalScan_cases s
  · rw [h]; exact .refl s
  · rw [h]; exact .of_write

/-- On an IDLE bus a CALL, FETCH or POLL that begins to be sent takes a spare reservation, and a
SEND none (R97). -/
theorem keepsBooks_startSending (h : s.bus = .idle) (kind : TxnKind) (p : PortNo) :
    KeepsBooks (k + if kind = .job .send then 0 else 1) k s (startSending kind p s) := by
  refine .of_bus ?_ rfl
  rw [transactionHolds, transactionHolds, h]
  exact (Nat.add_comm _ _).trans (Nat.zero_add _).symm

theorem keepsBooks_startJob (h : s.bus = .idle) {kind : JobKind} {p : PortNo}
    (hhead : eligibleHead s p = some kind) : KeepsBooks k k s (startJob kind p s) := by
  obtain ⟨-, hroom⟩ := eligibleHead_eq_some.mp hhead
  rw [startJob_eq]
  by_cases hsend : kind = .send
  · subst hsend
    exact (keepsBooks_startSending (k := k) h (.job .send) p).trans .of_write
  · have htake : KeepsBooks k (k + 1) s (takeReservation s) :=
      keepsBooks_takeReservation (hroom.resolve_left hsend)
    have hstart := keepsBooks_startSending (k := k) (s := takeReservation s) h (.job kind) p
    rw [if_neg (by simpa using hsend)] at hstart
    rw [if_neg hsend]
    exact (htake.trans hstart).trans .of_write

theorem keepsBooks_startPoll (h : s.bus = .idle) (hroom : entryFree s = true) (p : PortNo) :
    KeepsBooks k k s (startPoll p s) :=
  ((keepsBooks_takeReservation hroom).trans
    (keepsBooks_startSending (s := takeReservation s) h .poll p)).trans .of_write

theorem keepsBooks_offerJobs (h : s.bus = .idle) : KeepsBooks k k s (offerJobs s) := by
  obtain ⟨p, kind, hhead, h'⟩ | ⟨-, h'⟩ := offerJobs_cases s
  · rw [h']; exact keepsBooks_startJob h hhead
  · rw [h']; exact KeepsBooks.trans .of_write (keepsBooks_evalScan _)

theorem keepsBooks_decisionPass (h : s.bus = .idle) : KeepsBooks k k s (decisionPass s) := by
  obtain ⟨scan, index, hrun⟩ : ∃ scan index,
      runPending s = { s with scan := scan, nextIndex := index } := by
    unfold runPending
    split
    · exact ⟨_, _, rfl⟩
    · exact ⟨s.scan, s.nextIndex, rfl⟩
  have hrunning : KeepsBooks k k s (runPending s) := by rw [hrun]; exact .of_write
  have hidle : (runPending s).bus = .idle := by rw [hrun]; exact h
  unfold decisionPass
  dsimp only
  split
  · split
    · split
      case isTrue hroom => exact hrunning.trans (keepsBooks_startPoll hidle hroom _)
      case isFalse => exact hrunning.trans (keepsBooks_offerJobs hidle)
    · exact (hrunning.trans .of_write).trans
        (keepsBooks_offerJobs (s := stopScan true (runPending s)) hidle)
  · exact hrunning.trans (keepsBooks_offerJobs hidle)

theorem keepsBooks_arbitrate (s : State) : KeepsBooks k k s (arbitrate s) := by
  obtain h | ⟨hidle, -, h⟩ := arbitrate_cases s
  · rw [h]; exact .refl s
  · have hpass := keepsBooks_decisionPass (k := k) hidle
    rw [h]
    unfold decision
    dsimp only
    split
    case isTrue hagain =>
      rw [Bool.and_eq_true, beq_iff_eq] at hagain
      exact hpass.trans (keepsBooks_decisionPass hagain.2)
    case isFalse => exact hpass

theorem keepsBooks_endEvent (s : State) : KeepsBooks k k s (endEvent s) :=
  (((keepsBooks_evalScan s).trans (keepsBooks_choose _)).trans
    ((keepsBooks_arbitrate _).trans (keepsBooks_evalScan _))).trans .of_write

end

/-! ### Every step -/

/-- Settles O53: a reservation is taken for its holder with an entry found free, and used or given
back with it; none is spare after a move or at the end of the event. -/
theorem stepKeepsReservations : Obligations.StepKeepsReservations := fun _ _ => by
  have hkeeps : ∀ {s t}, KeepsBooks 0 0 s t → ReservationsHeld s → ReservationsHeld t :=
    fun h hs => (spare_zero_iff _).mp (h.spare ((spare_zero_iff _).mpr hs))
  obtain ⟨-, hreset, -⟩ := resetKeepsTheLaws
  exact step_keeps_of_moves (P := fun s => ReservationsHeld s) (Q := fun s => ReservationsHeld s)
    (fun _ _ => id) (fun _ => id) (fun _ _ h => hkeeps (keepsBooks_of_move h))
    (fun s => hkeeps (keepsBooks_endEvent s)) (fun _ _ => id) fun _ _ => ⟨hreset, hreset⟩

/-- Settles O54: a report joins the queue with the next count, and the queue head joins the ring. -/
theorem stepKeepsCounts : Obligations.StepKeepsCounts := fun _ _ => by
  obtain ⟨-, -, hreset, -⟩ := resetKeepsTheLaws
  exact step_keeps_of_moves (P := fun s => CountsConsecutive s) (Q := fun s => CountsConsecutive s)
    (fun _ _ => id) (fun _ => id) (fun _ _ h => (keepsBooks_of_move h).counts)
    (fun s => (keepsBooks_endEvent (k := 0) s).counts) (fun _ _ => id) fun _ _ => ⟨hreset, hreset⟩

/-- Settles O55: a settled count sets a dirty flag and PROGRESS, and a PROGRESS frame clears them
all. -/
theorem stepKeepsProgress : Obligations.StepKeepsProgress := fun _ _ => by
  obtain ⟨-, -, -, hreset, -⟩ := resetKeepsTheLaws
  exact step_keeps_of_moves (P := fun s => ProgressAgrees s) (Q := fun s => ProgressAgrees s)
    (fun _ _ => id) (fun _ => id) (fun _ _ h => (keepsBooks_of_move h).progress)
    (fun s => (keepsBooks_endEvent (k := 0) s).progress) (fun _ _ => id)
    fun _ _ => ⟨hreset, hreset⟩

end Sys2Proof.Machine
end

section
/-! PROOF. The tallies: a rise by one that stops at 65535 (R170); and what a QUERY finds: the fields
of each snapshot (R165 to R171) and the answer, or BAD_QUERY, in the empty slot (R161, R162). -/

namespace Sys2Proof.Machine

-- One proof is elaborated at a time: many at once would each hold a thread's stack.
set_option Elab.async false

/-! ### The tallies -/

/-- The places of R170 tell the tallies apart, as each place names one. -/
theorem tallyIndex_injective : Function.Injective Tally.index :=
  Function.LeftInverse.injective (g := fun i => Tally.ofNat i.val) fun t => by cases t <;> rfl

theorem tally_bump (t t' : Tally) (s : State) :
    (bump t s).tally t' = if t' = t then saturatingInc (s.tally t) else s.tally t' := by
  by_cases h : t' = t
  · simp [h, bump, State.tally]
  · have hindex : t.index.val ≠ t'.index.val :=
      fun e => h (tallyIndex_injective (Fin.ext e.symm))
    simp [h, bump, State.tally, hindex]

theorem toNat_saturatingInc (c : Count) : (saturatingInc c).toNat = min (c.toNat + 1) 65535 := by
  unfold saturatingInc
  split
  case isTrue hfull => rw [hfull]; rfl
  case isFalse hroom =>
    have hne : c.toNat ≠ 65535 := fun e => hroom (BitVec.eq_of_toNat_eq e)
    have hlt := c.isLt
    rw [BitVec.toNat_add, BitVec.toNat_one (by decide)]
    omega

/-- Settles O51: the entry of the tally is written with its saturating increment. -/
theorem talliesSaturate : Obligations.TalliesSaturate := by
  refine fun t s => ⟨?_, fun t' hne => ?_, rfl⟩
  · rw [tally_bump, if_pos rfl, toNat_saturatingInc]
  · rw [tally_bump, if_neg hne]

theorem tallies_toList (s : State) :
    s.tallies.toList =
      [s.tally .noise, s.tally .checkErr, s.tally .malformed, s.tally .duplicate,
        s.tally .heldDiscard, s.tally .holdEntry, s.tally .misdirected, s.tally .answerOverrun,
        s.tally .recallMiss, s.tally .busTimeout, s.tally .busBadReply, s.tally .busBusy,
        s.tally .strayReply, s.tally .scanSilent, s.tally .jobFailed] := by
  have hofFn : s.tallies.toList = List.ofFn fun i : Fin 15 => s.tallies[i] :=
    List.ext_getElem (by simp) fun i _ _ => by
      rw [Vector.getElem_toList, List.getElem_ofFn]; rfl
  exact hofFn

/-! ### The snapshots -/

theorem hubFields : Sys2Proof.Claim.HubFields :=
  fun _ => ⟨rfl, congrArg busView, fun _ => congrArg busView, fun _ _ => congrArg busView,
    fun _ _ => congrArg busView⟩

theorem bound_isSome_iff (x : Port) : x.bound.isSome = true ↔ x.state ≠ .closed := by
  simp [Option.isSome_iff_exists, bound_eq_some]

theorem portFields : Sys2Proof.Claim.PortFields := by
  intro p s v hv
  subst hv
  exact ⟨rfl, rfl, rfl, bound_isSome_iff _, rfl, rfl, rfl, rfl, Option.isSome_iff_exists,
    jobInFlight_iff s p, congrArg headView, fun _ _ _ _ _ _ => congrArg headView,
    fun _ _ _ => congrArg headView⟩

theorem itemAndTallyFields : Sys2Proof.Claim.ItemAndTallyFields :=
  ⟨fun _ _ _ _ _ => ⟨rfl, rfl⟩, fun _ _ => ⟨rfl, rfl⟩, tallies_toList⟩

/-! ### A QUERY by its kind and argument -/

/-- A QUERY that finds the slot empty is answered. -/
theorem exec_query_empty {c : Instr} {tag kind hi lo : Byte} {s t : State}
    (hf : hostFrameOf c = some (.query tag kind hi lo)) (hrun : s.resetHeld = false)
    (hslot : s.slot = none) (hanswer : answerQuery tag kind hi lo (frameReceived s) = t) :
    exec c s = .next (endEvent t) := by
  have hempty : ¬ (frameReceived s).slot.isSome = true := by
    rw [show (frameReceived s).slot = none from hslot]; nofun
  rw [exec_of_carried_hostFrame hf (carried_eq_frameBounded hf) hrun, serve, forSlot,
    if_neg hempty, hanswer]

/-- The codes 01h to 05h are the five kinds (R161). -/
theorem queryKindOf_unknown {kind : Byte} (h : kind.toNat = 0 ∨ 6 ≤ kind.toNat) :
    queryKindOf kind = none := by
  have hne : ∀ code : Byte, 1 ≤ code.toNat → code.toNat ≤ 5 → ¬ kind = code := by
    rintro code hlow hhigh rfl
    omega
  rw [queryKindOf, if_neg (hne _ (by decide) (by decide)), if_neg (hne _ (by decide) (by decide)),
    if_neg (hne _ (by decide) (by decide)), if_neg (hne _ (by decide) (by decide)),
    if_neg (hne _ (by decide) (by decide))]

section
variable (tag hi lo : Byte) (s : State)

theorem answerQuery_port {p : PortNo} (hp : portOfByte hi = some p) :
    answerQuery tag 0x02#8 hi lo s = placeAnswer (.port tag (portView p s)) s := by
  simp [answerQuery, queryKindOf, hp]

theorem answerQuery_queue {p : PortNo} (hp : portOfByte hi = some p) :
    answerQuery tag 0x03#8 hi lo s = placeAnswer (queueAnswer tag p lo s) s := by
  simp [answerQuery, queryKindOf, hp]

theorem answerQuery_badPort {kind : Byte} (hkind : kind = 0x02#8 ∨ kind = 0x03#8)
    (hp : portOfByte hi = none) :
    answerQuery tag kind hi lo s = placeAnswer (.badQuery tag kind hi lo) s := by
  obtain rfl | rfl := hkind <;> simp [answerQuery, queryKindOf, hp]

theorem answerQuery_badFlag (h : 2 ≤ lo.toNat) :
    answerQuery tag 0x04#8 hi lo s = placeAnswer (.badQuery tag 0x04#8 hi lo) s := by
  have hkeep : lo ≠ 0#8 := by rintro rfl; exact absurd h (by decide)
  have hclear : lo ≠ 1#8 := by rintro rfl; exact absurd h (by decide)
  simp [answerQuery, queryKindOf, hkeep, hclear]

theorem answerQuery_unknownKind {kind : Byte} (h : kind.toNat = 0 ∨ 6 ≤ kind.toNat) :
    answerQuery tag kind hi lo s = placeAnswer (.badQuery tag kind hi lo) s := by
  rw [answerQuery, queryKindOf_unknown h]

end

theorem queries : Sys2Proof.Claim.Queries := by
  intro tag hi lo s u hrun hslot hu
  subst hu
  refine ⟨exec_query_empty rfl hrun hslot rfl, fun p hport => ?_, fun hkeep => ?_,
    fun hclear => ?_, exec_query_empty rfl hrun hslot rfl⟩
  · have hp := portOfByte_eq hport
    exact ⟨exec_query_empty rfl hrun hslot (answerQuery_port tag hi lo _ hp),
      exec_query_empty rfl hrun hslot (answerQuery_queue tag hi lo _ hp)⟩
  · subst hkeep
    exact exec_query_empty rfl hrun hslot rfl
  · subst hclear
    exact exec_query_empty rfl hrun hslot rfl

theorem badQueries : Sys2Proof.Claim.BadQueries := by
  intro tag hi lo s u hrun hslot hu
  subst hu
  refine ⟨fun hport => ?_, fun hflag => ?_, fun kind hkind => ?_⟩
  · have hp := portOfByte_of_ge hport
    exact ⟨exec_query_empty rfl hrun hslot (answerQuery_badPort tag hi lo _ (.inl rfl) hp),
      exec_query_empty rfl hrun hslot (answerQuery_badPort tag hi lo _ (.inr rfl) hp)⟩
  · exact exec_query_empty rfl hrun hslot (answerQuery_badFlag tag hi lo _ hflag)
  · exact exec_query_empty rfl hrun hslot (answerQuery_unknownKind tag hi lo _ hkind)

/-- Settles O49: the fields of each snapshot, and the empty slot filled by the kind and argument of
the QUERY. -/
theorem queryAnswers : Obligations.QueryAnswers :=
  ⟨hubFields, portFields, itemAndTallyFields, queries, badQueries⟩

end Sys2Proof.Machine
end

section
/-! PROOF. Commands that are no event (logs 2, 3, 28): a trigger that does not stand, RESET held
low, and the receiver off while the hub drives the pair. -/

namespace Sys2Proof.Machine

/-! ### A trigger that does not stand -/

theorem eventIf_of_not_occurs {occurs : State → Bool} {s : State} (h : occurs s = false)
    (f : State → State) : eventIf occurs f s = s := if_neg (by rw [h]; nofun)

theorem sendingPost_iff (s : State) :
    sendingPost s = true ↔ ∃ t, s.bus = .sending t ∧ t.kind = .job .send := by
  unfold sendingPost
  cases s.bus <;> simp

theorem sendingCommand_iff (s : State) :
    sendingCommand s = true ↔
      ∃ t, s.bus = .sending t ∧ (t.kind = .job .call ∨ t.kind = .job .fetch) := by
  unfold sendingCommand
  cases s.bus <;> simp

theorem sendingPoll_iff (s : State) :
    sendingPoll s = true ↔ ∃ t, s.bus = .sending t ∧ t.kind = .poll := by
  unfold sendingPoll
  cases s.bus <;> simp

theorem deadlineRuns_iff (s : State) :
    deadlineRuns s = true ↔ ∃ t, s.bus = .awaiting t .running := by
  unfold deadlineRuns
  split <;> simp_all

theorem busQuiet_iff (s : State) : busQuiet s = true ↔ ∃ n f, s.bus = .quiet n f := by
  unfold busQuiet
  cases s.bus <;> simp

theorem abandonedChar_iff (s : State) :
    abandonedChar s = true ↔ ∃ n f, s.bus = .quiet n (some f) := by
  unfold abandonedChar
  cases s.bus <;> simp [Option.isSome_iff_exists]

theorem noEvent {occurs : State → Bool} {s : State} (f : State → State)
    (h : ¬ occurs s = true) :
    (.next (eventIf occurs f s) : Host.Outcome State Fault Refusal) = .next s :=
  congrArg _ (eventIf_of_not_occurs (Bool.eq_false_iff.mpr h) f)

theorem noTriggerNoEvent : Sys2Proof.Claim.NoTriggerNoEvent := by
  intro s
  refine ⟨fun hrx => noEvent tGapExpires (by rw [tGapRuns, hrx]; nofun),
    fun htimer => noEvent silenceExpires (by rw [htimer]; nofun),
    fun hline => noEvent _ (by rw [lineBusy, hline]; nofun),
    fun hbus => noEvent _ fun h => ?_, fun hbus => noEvent _ fun h => ?_,
    fun hbus => noEvent _ fun h => ?_, fun hbus => noEvent _ fun h => ?_,
    fun htrib => noEvent _ (by rw [tribInFrame_hunt htrib]; nofun),
    fun p hwait => noEvent _ (by rw [hwait]; nofun),
    fun hbus => noEvent _ fun h => ?_, fun hbus => noEvent _ fun h => ?_, ?_⟩
  · obtain ⟨t, hsending, hkind⟩ := (sendingPost_iff s).mp h
    exact hbus t hsending hkind
  · obtain ⟨t, hsending, hkind⟩ := (sendingCommand_iff s).mp h
    obtain hother | hother := hbus t hsending
    · simp [hother] at hkind
    · simp [hother] at hkind
  · obtain ⟨t, hsending, hkind⟩ := (sendingPoll_iff s).mp h
    exact hbus t hsending hkind
  · obtain ⟨t, hawaiting⟩ := (deadlineRuns_iff s).mp h
    exact hbus t hawaiting
  · obtain ⟨n, f, hquiet⟩ := (busQuiet_iff s).mp h
    exact hbus n f hquiet
  · obtain ⟨n, f, hquiet⟩ := (abandonedChar_iff s).mp h
    exact hbus n f hquiet
  · refine congrArg Host.Outcome.next ?_
    split
    · rfl
    · exact eventIf_of_not_occurs (occurs := fun u => u.attn != s.attn) (bne_self_eq_false _) _

/-! ### Characters on the pair that are no event -/

section
variable {s : State} (h : ∀ c, tribCharEvent c s = s)
include h

theorem exec_tribChars_of_unheard (chars : List LineChar) :
    exec (.tributaryDamagedFrame chars) s = .next s :=
  congrArg Host.Outcome.next (List.foldl_fixed' h chars)

theorem exec_deadlineMet_of_unheard (address : Option Byte) :
    exec (.deadlineMet address) s = .next s := by
  refine congrArg Host.Outcome.next ?_
  cases address with
  | none => exact h _
  | some a => simp only [h, ite_self]

end

/-! ### RESET held -/

section
variable {s : State} (h : s.resetHeld = true)
include h

theorem event_of_held (f : State → State) : event f s = s := if_pos h

theorem eventIf_of_held (occurs : State → Bool) (f : State → State) : eventIf occurs f s = s := by
  rw [eventIf, event_of_held h, ite_self]

theorem tribCharEvent_of_held (c : LineChar) : tribCharEvent c s = s := eventIf_of_held h _ _

theorem tribFrameArrives_of_held (address kind : Byte) (data : List Byte) :
    tribFrameArrives address kind data s = s := by
  rw [tribFrameArrives, tribCharEvent_of_held h, eventIf_of_held h, tribFrameEnd,
    eventIf_of_held h, ite_self]

theorem exec_attnChange_of_held (a : Bool) :
    exec (.attnChange a) s = .next { s with attn := a } := congrArg Host.Outcome.next (if_pos h)

/-- A command that brings no whole frame and is no change of a pin. -/
theorem exec_of_held_noFrame {c : Instr} (hhost : hostFrameOf c = none)
    (hgood : goodFrameOf c = none) (hcarried : c.carried = true)
    (hattn : ∀ a, c ≠ .attnChange a) (hasserted : c ≠ .resetAsserted)
    (hreleased : ∀ a b, c ≠ .resetReleased a b) : exec c s = .next s := by
  cases c with
  | noise | outOfRangeLen | framingError => exact congrArg _ (event_of_held h _)
  | damagedFrame | malformedFrame =>
    exact (if_pos hcarried).trans (congrArg _ (event_of_held h _))
  | tgapExpiry | silenceTimerExpiry | endOfTransmission | sendEndOfSending | commandEndOfSending
  | pollEndOfSending | tributaryCharacterGapExpiry | deadlineExpiry | busyWaitExpiry
  | tquietExpiry | abandonedCharacterEnd => exact congrArg _ (eventIf_of_held h _ _)
  | deadlineMet address => exact exec_deadlineMet_of_unheard (tribCharEvent_of_held h) address
  | tributaryDamagedFrame chars =>
    exact exec_tribChars_of_unheard (tribCharEvent_of_held h) chars
  | attnChange a => exact absurd rfl (hattn a)
  | resetAsserted => exact absurd rfl hasserted
  | resetReleased a b => exact absurd rfl (hreleased a b)
  | replyDone | replyBusy | replyRefused | replyEvent | replyNone
  | tributaryOtherFrame => cases hgood
  | _ => cases hhost

end

theorem heldHubIgnores : Sys2Proof.Claim.HeldHubIgnores := by
  intro c s h hcarried
  refine ⟨?_, fun hattn hasserted hreleased => ?_⟩
  · rintro a rfl
    exact exec_attnChange_of_held h a
  · cases hhost : hostFrameOf c with
    | some f => rw [exec_of_hostFrame hhost, if_pos hcarried, frameEvent, event_of_held h]
    | none =>
      cases hgood : goodFrameOf c with
      | some frame =>
        rw [exec_of_carried_goodFrame hgood hcarried, tribFrameArrives_of_held h]
      | none => exact exec_of_held_noFrame h hhost hgood hcarried hattn hasserted hreleased

/-! ### The receiver off -/

theorem tribFrameArrives_of_driven {s : State} (h : tbdir s = true) (address kind : Byte)
    (data : List Byte) : tribFrameArrives address kind data s = s := by
  have hstranger : strangerAfterPassed address s = false := by
    refine not_strangerAfterPassed fun t hbus _ => ?_
    rw [tbdir_awaiting hbus] at h
    cases h
  rw [tribFrameArrives_at_once hstranger]
  exact eventIf_of_not_occurs (by rw [receiverOn, h]; rfl) _

theorem receiverOffWhileDriving : Sys2Proof.Claim.ReceiverOffWhileDriving := by
  intro s hbus
  have h : tbdir s = true := (tbdir_iff s).mpr hbus
  refine ⟨fun c frame hgood hcarried => ?_,
    exec_tribChars_of_unheard (tribCharEvent_of_driven h),
    exec_deadlineMet_of_unheard (tribCharEvent_of_driven h)⟩
  rw [exec_of_carried_goodFrame hgood hcarried, tribFrameArrives_of_driven h]

/-- Settles O3: no trigger, no event; a held hub has none, and a hub that drives hears nothing. -/
theorem eventsThatDoNotOccur : Obligations.EventsThatDoNotOccur :=
  ⟨noTriggerNoEvent, heldHubIgnores, receiverOffWhileDriving⟩

end Sys2Proof.Machine
end

section
/-! PROOF. The CRC register over two more bytes (R175): it is linear, and a 16-bit value run into it
stands as zeros run into the exclusive-or of the two, which end at zero only from zero. -/

namespace Sys2Proof.Machine

/-! ### One bit -/

/-- What goes into the register when this bit leaves it (R175). -/
def crcFeedback (out : Bool) : BitVec 16 := if out then 0x1021#16 else 0#16

theorem crcFeedback_xor (a b : Bool) :
    crcFeedback (a ^^ b) = crcFeedback a ^^^ crcFeedback b := by
  cases a
  · cases b <;> rfl
  · cases b <;> rfl

theorem crcBit_eq (r : BitVec 16) (b : Bool) :
    crcBit r b = r <<< 1 ^^^ crcFeedback (r.getLsbD 15 ^^ b) := by
  rw [crcBit, crcFeedback]
  split
  · rfl
  · exact BitVec.xor_zero.symm

/-- The register takes exclusive-ors apart. -/
theorem crcBit_xor (r c : BitVec 16) (a b : Bool) :
    crcBit (r ^^^ c) (a ^^ b) = crcBit r a ^^^ crcBit c b := by
  simp only [crcBit_eq, BitVec.shiftLeft_xor_distrib, BitVec.getLsbD_xor, crcFeedback_xor]
  ac_rfl

/-- Its own top bit shifts the register out. -/
theorem crcBit_top (c : BitVec 16) : crcBit c (c.getLsbD 15) = c <<< 1 := by
  simp [crcBit]

/-- A bit of zero run into the register. -/
def crcZero (r : BitVec 16) : BitVec 16 := crcBit r false

theorem crcBit_top_eq (r c : BitVec 16) :
    crcBit (r ^^^ c) (c.getLsbD 15) = crcZero r ^^^ c <<< 1 := by
  have hsplit := crcBit_xor r c false (c.getLsbD 15)
  rwa [Bool.false_xor, crcBit_top] at hsplit

/-- A zero bit brings the register to zero from zero alone: 1021h, if it goes in, leaves the lowest
bit set. -/
theorem crcZero_eq_zero {r : BitVec 16} : crcZero r = 0 ↔ r = 0 := by
  refine ⟨fun h => ?_, fun h => by rw [h]; rfl⟩
  rw [crcZero, crcBit, Bool.xor_false] at h
  cases htop : r.getLsbD 15 with
  | true =>
    rw [htop, if_pos rfl] at h
    have hlow := congrArg (BitVec.getLsbD · 0) h
    simp at hlow
  | false =>
    rw [htop, if_neg nofun] at h
    refine BitVec.eq_of_getLsbD_eq fun i hi => ?_
    obtain rfl | hlt : i = 15 ∨ i < 15 := by omega
    · simpa using htop
    · have hbit := congrArg (BitVec.getLsbD · (i + 1)) h
      simpa [show i + 1 < 16 by omega, ← BitVec.getLsbD_eq_getElem] using hbit

theorem iterate_crcZero_eq_zero (n : Nat) {r : BitVec 16} : crcZero^[n] r = 0 ↔ r = 0 := by
  induction n with
  | zero => rfl
  | succ n ih => rw [Function.iterate_succ_apply', crcZero_eq_zero, ih]

/-! ### Sixteen bits -/

/-- The first `n` bits of a 16-bit value, from its highest, run into the register. -/
theorem crcBits_eq (r c : BitVec 16) {n : Nat} (hn : n ≤ 16) :
    (List.range n).foldl (fun acc i => crcBit acc (c.getLsbD (15 - i))) r =
      crcZero^[n] (r ^^^ c) ^^^ c <<< n := by
  induction n with
  | zero => simp
  | succ n ih =>
    have htop : c.getLsbD (15 - n) = (c <<< n).getLsbD 15 := by
      rw [BitVec.getLsbD_shiftLeft, decide_eq_false (p := 15 < n) (by omega)]
      rfl
    rw [List.range_succ, List.foldl_append, ih (by omega), List.foldl_cons, List.foldl_nil, htop,
      crcBit_top_eq, Function.iterate_succ_apply', BitVec.shiftLeft_add]

/-- The two bytes of a field are its sixteen bits, from the highest (R174, R175). -/
theorem crcBytes16_eq_crcBits (r c : BitVec 16) :
    (bytes16 c).foldl crcByte r =
      (List.range 16).foldl (fun acc i => crcBit acc (c.getLsbD (15 - i))) r := by
  simp [bytes16, crcByte, hiByte, loByte, List.range_succ]

/-- The two bytes of a field bring the register to zero where it holds the field. -/
theorem crcBytes16_eq_zero (r c : BitVec 16) : (bytes16 c).foldl crcByte r = 0 ↔ c = r := by
  have hout : c <<< 16 = 0#16 := BitVec.shiftLeft_eq_zero (Nat.le_refl 16)
  rw [crcBytes16_eq_crcBits, crcBits_eq r c (Nat.le_refl 16), hout, BitVec.xor_zero,
    iterate_crcZero_eq_zero]
  exact BitVec.xor_eq_zero_iff.trans eq_comm

/-- Settles O13: the two bytes run into the register of the covered bytes. -/
theorem crcResidue : Obligations.CrcResidue := by
  intro bytes crc
  rw [crc16, List.foldl_append]
  exact crcBytes16_eq_zero (crc16 bytes) crc

end Sys2Proof.Machine
end

section
/-! PROOF. Characters on RXD from its levels (R173), bit time by bit time: a fall, eight data bits and
a stop bit, each read at its middle, with the glitch and the held line; and what a character does in
HUNT and after a START byte (R24, R25). -/

namespace Sys2Proof.Machine

/-! ### The byte of eight bits -/

theorem testBit_foldr_bits (bits : List Bool) (i : Nat) :
    (bits.foldr (fun (b : Bool) n => b.toNat + 2 * n) 0).testBit i = bits.getD i false := by
  induction bits generalizing i with
  | nil => simp
  | cons b bits ih =>
    rw [List.foldr_cons, Nat.add_comm, ← Nat.bit_val]
    cases i with
    | zero => rw [Nat.testBit_bit_zero]; rfl
    | succ i => rw [Nat.testBit_bit_succ, ih]; rfl

/-- The bits of a byte, least significant first, give it back (R173). -/
theorem byteOfBits_dataBits (b : Byte) :
    byteOfBits ([0, 1, 2, 3, 4, 5, 6, 7].map fun i => b.getLsbD i) = b := by
  refine BitVec.eq_of_getLsbD_eq fun i hi => ?_
  rw [byteOfBits, byteOf, BitVec.getLsbD_ofNat, testBit_foldr_bits, decide_eq_true hi]
  obtain rfl | rfl | rfl | rfl | rfl | rfl | rfl | rfl :
    i = 0 ∨ i = 1 ∨ i = 2 ∨ i = 3 ∨ i = 4 ∨ i = 5 ∨ i = 6 ∨ i = 7 := by omega
  all_goals rfl

/-! ### A steady line -/

/-- With no character part way, a line at mark or one that was at space already brings nothing. -/
theorem hearRxd_steady {s : State} {level : Bool} (h : s.resetHeld = false)
    (hc : s.rxdChar = none) (hlevel : s.rxdLevel = level ∨ level = true) (half : Nat) :
    s.hearRxd half level = { s with rxdLevel := level } := by
  have hfall : (s.rxdLevel && !level) = false := by
    obtain hsame | hmark := hlevel
    · rw [hsame, Bool.and_not_self]
    · rw [hmark]; exact Bool.and_false _
  rw [hearRxd_idle h hc, hfall, ← hc]
  rfl

theorem hearLevels_steady (half n : Nat) {s : State} {level : Bool} (h : s.resetHeld = false)
    (hc : s.rxdChar = none) (hlevel : s.rxdLevel = level) :
    s.hearLevels half (List.replicate n level) = s := by
  induction n with
  | zero => rfl
  | succ n ih =>
    have hsample : s.hearRxd half level = s := by
      rw [hearRxd_steady h hc (.inl hlevel), ← hlevel]
    rw [List.replicate_succ, hearLevels_cons, hsample, ih]

theorem nothingHeard : Sys2Proof.Claim.NothingHeard := by
  intro half n level s
  refine ⟨fun h hc hlevel => ?_, fun h => if_pos h⟩
  rw [List.replicate_succ, hearLevels_cons, hearRxd_steady h hc hlevel]
  exact hearLevels_steady half n (s := { s with rxdLevel := level }) h hc rfl

/-! ### Part way through a character -/

/-- RXD stands at `level` and a character is part way: so many samples to the middle of its next
bit, and the levels read so far. -/
def inCharacter (level : Bool) (wait : Nat) (bits : List Bool) (s : State) : State :=
  { s with rxdLevel := level, rxdChar := some ⟨wait, bits⟩ }

section
variable {s : State} (h : s.resetHeld = false) (half : Nat)
include h

/-- A fall from mark to space begins a character. -/
theorem hearRxd_fall (hmark : s.rxdLevel = true) (hc : s.rxdChar = none) :
    s.hearRxd half false = inCharacter false half [] s := by
  rw [hearRxd_idle h hc, hmark]
  rfl

/-- Samples short of the middle of the next bit only wait. -/
theorem hearLevels_inCharacter (level : Bool) {w : Nat} (hw : 1 ≤ w) (bits levels : List Bool) :
    (inCharacter level (w + levels.length) bits s).hearLevels half levels =
      inCharacter (levels.getLast?.getD level) w bits s :=
  hearLevels_wait half levels (inCharacter level (w + levels.length) bits s) w bits h rfl hw

/-- The sample at the middle of a bit that is not the last. -/
theorem hearRxd_inCharacter {bits : List Bool} {l : Bool}
    (hread : middleOfBit half l bits = (some ⟨2 * half, bits ++ [l]⟩, none)) (level : Bool) :
    (inCharacter level 1 bits s).hearRxd half l = inCharacter l (2 * half) (bits ++ [l]) s := by
  rw [hearRxd_middle (s := inCharacter level 1 bits s) h rfl (Nat.le_refl 1)]
  simp [inCharacter, hread]

/-- The sample at the middle of the stop bit puts the character at the end of the queue. -/
theorem hearRxd_stop (hc : s.rxdChar = none) (start : Bool) {data : List Bool}
    (hdata : data.length = 8) (level stop : Bool) :
    (inCharacter level 1 (start :: data) s).hearRxd half stop =
      { s with
        rxdLevel := stop, pending := s.pending ++ [.noise (byteOfBits data) (!stop)] } := by
  have hread : middleOfBit half stop (start :: data) = (none, some ⟨byteOfBits data, !stop⟩) :=
    if_pos hdata
  rw [hearRxd_middle (s := inCharacter level 1 (start :: data) s) h rfl (Nat.le_refl 1)]
  simp [inCharacter, hread, hc]

end

theorem glitchIgnored : Sys2Proof.Claim.GlitchIgnored := by
  intro half between s hlen h hmark hc
  have hfall : s.hearRxd half false = inCharacter false (1 + between.length) [] s := by
    rw [hearRxd_fall h half hmark hc, ← hlen, Nat.add_comm]
  rw [hearLevels_cons, hfall, hearLevels_append,
    hearLevels_inCharacter h half false (Nat.le_refl 1) [] between, hearLevels_cons,
    hearLevels_nil, hearRxd_middle (s := inCharacter _ 1 [] s) h rfl (Nat.le_refl 1)]
  simp [inCharacter, middleOfBit, ← hmark, ← hc]

/-! ### Bit by bit -/

section
variable {s : State} (h : s.resetHeld = false) (k : Nat)
include h

/-- With `k + 1` samples in half a bit time: a level that is held over the `w` samples before the
middle of the next bit, at it and to the end of the bit is read as that bit. -/
theorem hearLevels_bit {bits : List Bool} {l : Bool}
    (hread : middleOfBit (k + 1) l bits = (some ⟨2 * (k + 1), bits ++ [l]⟩, none)) (level : Bool)
    (w : Nat) :
    (inCharacter level (w + 1) bits s).hearLevels (k + 1) (List.replicate (w + 1 + k) l) =
      inCharacter l (k + 2) (bits ++ [l]) s := by
  have hbefore := hearLevels_inCharacter h (k + 1) level (Nat.le_refl 1) bits (List.replicate w l)
  have hafter := hearLevels_inCharacter h (k + 1) l (Nat.le_add_left 1 (k + 1)) (bits ++ [l])
    (List.replicate k l)
  rw [List.length_replicate, Nat.add_comm 1 w] at hbefore
  rw [List.length_replicate, show k + 1 + 1 + k = 2 * (k + 1) by omega] at hafter
  rw [List.replicate_add, List.replicate_add, hearLevels_append, hearLevels_append, hbefore,
    List.replicate_one, hearLevels_cons, hearLevels_nil, hearRxd_inCharacter h (k + 1) hread,
    hafter]
  congr 1
  cases k with
  | zero => rfl
  | succ k => rw [List.getLast?_replicate]; rfl

/-- The start bit, from its fall. -/
theorem hearLevels_startBit (hmark : s.rxdLevel = true) (hc : s.rxdChar = none) :
    s.hearLevels (k + 1) (List.replicate (2 * (k + 1)) false) =
      inCharacter false (k + 2) [false] s := by
  have hsamples : 2 * (k + 1) = (k + 1 + k) + 1 := by omega
  rw [hsamples, List.replicate_succ, hearLevels_cons, hearRxd_fall h _ hmark hc]
  exact hearLevels_bit h k (bits := []) rfl false k

/-- Up to eight data bits after the start bit (R173). -/
theorem hearLevels_dataBits (level start : Bool) (read data : List Bool)
    (hroom : read.length + data.length ≤ 8) :
    (inCharacter level (k + 2) (start :: read) s).hearLevels (k + 1) (bitTimes (k + 1) data) =
      inCharacter (data.getLast?.getD level) (k + 2) (start :: (read ++ data)) s := by
  induction data generalizing level read with
  | nil => rw [List.append_nil]; rfl
  | cons l data ih =>
    have hfew : read.length ≠ 8 := by rw [List.length_cons] at hroom; omega
    have hbit := hearLevels_bit h k (bits := start :: read) (l := l) (if_neg hfew) level (k + 1)
    rw [show k + 1 + 1 + k = 2 * (k + 1) by omega] at hbit
    rw [bitTimes, List.flatMap_cons, hearLevels_append, hbit]
    refine (ih l (read ++ [l]) ?_).trans ?_
    · simp only [List.length_append, List.length_cons, List.length_nil] at hroom ⊢; omega
    · rw [List.append_assoc, List.singleton_append, List.getLast?_cons, Option.getD_some]

/-- Start bit, eight data bits and a stop bit held past its middle (R173). -/
theorem hearLevels_character (hmark : s.rxdLevel = true) (hc : s.rxdChar = none) {data : List Bool}
    (hdata : data.length = 8) (stop : Bool) (n : Nat) :
    s.hearLevels (k + 1)
        (bitTimes (k + 1) (false :: data) ++ List.replicate (k + 2 + n) stop) =
      { s with
        rxdLevel := stop, pending := s.pending ++ [.noise (byteOfBits data) (!stop)] } := by
  have hbits := hearLevels_dataBits h k false false [] data (by rw [List.length_nil]; omega)
  have hwait := hearLevels_inCharacter h (k + 1) (data.getLast?.getD false) (Nat.le_refl 1)
    (false :: data) (List.replicate (k + 1) stop)
  rw [List.length_replicate, show 1 + (k + 1) = k + 2 by omega] at hwait
  rw [bitTimes, List.flatMap_cons, ← bitTimes, hearLevels_append, hearLevels_append,
    hearLevels_startBit h k hmark hc, hbits, List.nil_append, List.replicate_add,
    List.replicate_succ', hearLevels_append, hearLevels_append, hwait, hearLevels_cons,
    hearLevels_nil, hearRxd_stop h (k + 1) hc false hdata]
  exact hearLevels_steady (k + 1) n h hc rfl

end

/-- A character in its format, its stop bit held to the end (R173). -/
theorem characterHeard : Sys2Proof.Claim.CharacterHeard := by
  intro half b ferr s hhalf h hmark hc
  obtain ⟨k, rfl⟩ := Nat.exists_eq_add_of_le' hhalf
  have hheard := hearLevels_character h k hmark hc
    (data := [0, 1, 2, 3, 4, 5, 6, 7].map fun i => b.getLsbD i) rfl (!ferr) k
  rw [byteOfBits_dataBits, Bool.not_not] at hheard
  rw [← hheard, show k + 2 + k = 2 * (k + 1) by omega]
  congr 1
  simp [bitTimes]

theorem bitTimes_replicate (half n : Nat) (level : Bool) :
    bitTimes half (List.replicate n level) = List.replicate (n * (2 * half)) level := by
  rw [bitTimes, List.flatMap_replicate, List.flatten_replicate_replicate]

theorem heldLine : Sys2Proof.Claim.HeldLine := by
  intro half n s hhalf hn h hmark hc
  obtain ⟨k, rfl⟩ := Nat.exists_eq_add_of_le' hhalf
  obtain ⟨m, rfl⟩ : ∃ m, n = 9 * (2 * (k + 1)) + (k + 2 + m) :=
    ⟨n - (9 * (2 * (k + 1)) + (k + 2)), by omega⟩
  have hheld : s.hearLevels (k + 1) (List.replicate (9 * (2 * (k + 1)) + (k + 2 + m)) false) =
      { s with rxdLevel := false, pending := s.pending ++ [.noise 0x00#8 true] } := by
    rw [List.replicate_add, ← bitTimes_replicate]
    exact hearLevels_character h k hmark hc (data := List.replicate 8 false) rfl false m
  refine ⟨hheld, ?_⟩
  rw [hearLevels_append, hheld, hearLevels_cons, hearLevels_nil]
  have hmarkAgain := hearRxd_steady (level := true)
    (s := { s with rxdLevel := false, pending := s.pending ++ [.noise 0x00#8 true] }) h hc
    (.inr rfl) (k + 1)
  rw [hmarkAgain, ← hmark]

/-! ### In HUNT and after a START byte -/

section
variable {s : State} (h : s.resetHeld = false)
include h

/-- The command of a character is its event in whatever phase the receiver is in (log 13). -/
theorem exec_noise (b : Byte) (ferr : Bool) :
    exec (.noise b ferr) s = .next (endEvent (uplinkChar b ferr s)) :=
  congrArg _ (event_of_running h _)

theorem exec_outOfRangeLen (b : Byte) (ferr : Bool) :
    exec (.outOfRangeLen b ferr) s = .next (endEvent (uplinkChar b ferr s)) :=
  congrArg _ (event_of_running h _)

theorem exec_framingError (b : Byte) :
    exec (.framingError b) s = .next (endEvent (uplinkChar b true s)) :=
  congrArg _ (event_of_running h _)

end

theorem huntByte_start (s : State) :
    huntByte Config.uplinkStart false s = { s with rx := .inFrame [] } := rfl

theorem huntByte_noise {b : Byte} {ferr : Bool} (hb : ferr = true ∨ b ≠ Config.uplinkStart)
    (s : State) : huntByte b ferr s = { bump .noise s with rx := .hunt } :=
  if_pos (by simpa using hb)

theorem uplinkChar_hunt {s : State} (hrx : s.rx = .hunt) (b : Byte) (ferr : Bool) :
    uplinkChar b ferr s = huntByte b ferr s := by
  rw [uplinkChar, hrx]

/-- A byte in HUNT that begins no frame leaves the receiver where it is. -/
theorem uplinkChar_hunt_noise {s : State} (hrx : s.rx = .hunt) {b : Byte} {ferr : Bool}
    (hb : ferr = true ∨ b ≠ Config.uplinkStart) : uplinkChar b ferr s = bump .noise s := by
  rw [uplinkChar_hunt hrx, huntByte_noise hb, ← hrx]
  rfl

/-- After a START byte alone, a sound in-range byte is LEN (R25). -/
theorem uplinkChar_len {s : State} (hrx : s.rx = .inFrame []) {b : Byte} (hmin : 1 ≤ b.toNat)
    (hmax : b.toNat ≤ Config.maxLen) : uplinkChar b false s = { s with rx := .inFrame [b] } := by
  have hb : b ≠ 0#8 := by rintro rfl; cases hmin
  rw [uplinkChar, hrx]
  exact if_neg (by simp [hb, hmax])

/-- After a START byte alone, any other byte costs the START and is a byte in HUNT (R25). -/
theorem uplinkChar_notLen {s : State} (hrx : s.rx = .inFrame []) {b : Byte} {ferr : Bool}
    (hb : ferr = true ∨ b.toNat = 0 ∨ Config.maxLen < b.toNat) :
    uplinkChar b ferr s = huntByte b ferr (bump .noise s) := by
  have hout : (ferr || b == 0#8 || decide (Config.maxLen < b.toNat)) = true := by
    simpa [or_assoc, BitVec.toNat_eq] using hb
  rw [uplinkChar, hrx]
  exact if_pos hout

theorem characterInHunt : Sys2Proof.Claim.CharacterInHunt := by
  intro b ferr s h hrx
  refine ⟨?_, fun hb => ?_, ?_⟩
  · rintro rfl rfl
    rw [exec_noise h, uplinkChar_hunt hrx]
    rfl
  · rw [exec_noise h, uplinkChar_hunt_noise hrx hb]
  · rw [exec_framingError h, uplinkChar_hunt_noise hrx (.inl rfl)]

theorem characterAfterStart : Sys2Proof.Claim.CharacterAfterStart := by
  intro b ferr s h hrx
  refine ⟨?_, ?_, fun hb => ?_, ?_, ?_⟩
  · rintro rfl hmin hmax
    rw [exec_noise h, uplinkChar_len hrx hmin hmax]
  · rintro rfl rfl
    rw [exec_outOfRangeLen h, uplinkChar_notLen hrx (.inr (.inr (by decide)))]
    rfl
  · rw [exec_outOfRangeLen h, uplinkChar_notLen hrx (hb.imp_right And.right),
      huntByte_noise (hb.imp_right And.left)]
  · rw [exec_framingError h, uplinkChar_notLen hrx (.inl rfl), huntByte_noise (.inl rfl)]
  · have hruns : tGapRuns s = true := by rw [tGapRuns, hrx]
    have hexpires : tGapExpires s = { bump .noise s with rx := .hunt } := by
      rw [tGapExpires, hrx]; rfl
    rw [← hexpires]
    exact congrArg _ (eventIf_of_running h hruns tGapExpires)

/-- Settles O7: the levels of RXD bit by bit, and the character in the receiver's first two
phases. -/
theorem uplinkCharacters : Obligations.UplinkCharacters :=
  ⟨characterHeard, glitchIgnored, heldLine, nothingHeard, characterInHunt, characterAfterStart⟩

end Sys2Proof.Machine
end

section
/-! PROOF. Report frames (R149, R173 to R175, R178 to R180): field order and codes by kind, the LEN
of each kind, and the frame on TXD bit by bit. -/

namespace Sys2Proof.Machine

open Sys2Proof.Claim (streamCodes linkCodes kindCodes faultCoded entryCoded busCoded headCoded
  stateCoded frameInBounds)

/-! ### Codes -/

theorem code_of_mem {α β : Type} {code : α → β} {table : List (α × β)} {a : α} {b : β}
    (h : (a, b) ∈ table) (htable : ∀ x ∈ table, code x.1 = x.2) : code a = b := htable (a, b) h

theorem streamBytes_of_mem {st : StreamState} {codes : List Byte} (h : (st, codes) ∈ streamCodes) :
    streamBytes st = codes := code_of_mem h (by decide)

theorem linkCode_of_mem {link : Link} {code : Byte} (h : (link, code) ∈ linkCodes) :
    linkCode link = code := code_of_mem h (by decide)

theorem kindCode_of_mem {k : JobKind} {code : Byte} (h : (k, code) ∈ kindCodes) :
    k.code = code := code_of_mem h (by decide)

theorem faultBytes_of_coded {f : FaultCause} {cause refusal : Byte}
    (h : faultCoded f cause refusal) : faultBytes f = [cause, refusal] := by
  obtain ⟨rfl, rfl, rfl⟩ | ⟨rfl, rfl, rfl⟩ | ⟨rfl, rfl⟩ | ⟨rfl, rfl, rfl⟩ := h
  all_goals rfl

theorem fenceEntryBytes_of_coded {e : FenceEntry} {bytes : List Byte} (h : entryCoded e bytes) :
    fenceEntryBytes e = bytes := by
  obtain ⟨rfl, rfl⟩ | ⟨g, rfl, rfl⟩ := h
  · rfl
  · rfl

theorem busBytes_of_coded {b : BusView} {bytes : List Byte} (h : busCoded b bytes) :
    busBytes b = bytes := by
  obtain ⟨rfl, rfl⟩ | ⟨rfl, rfl⟩ | ⟨k, code, p, hk, ⟨rfl, rfl⟩ | ⟨rfl, rfl⟩⟩ := h
  · rfl
  · rfl
  · rw [busBytes, code_of_mem (code := txnCode) hk (by decide)]; rfl
  · rw [busBytes, code_of_mem (code := txnCode) hk (by decide)]; rfl

theorem headBytes_of_coded {v : HeadView} {bytes : List Byte} (h : headCoded v bytes) :
    v.bytes = bytes := by
  obtain ⟨rfl, rfl⟩ | ⟨k, code, st, a, b, hk, rfl, rfl⟩ | ⟨st, i, rfl, rfl⟩ := h
  · rfl
  · rw [HeadView.bytes, kindCode_of_mem hk]; rfl
  · rfl

theorem portState_of_coded {st : PortState} {code : Byte} {bytes : List Byte}
    (h : stateCoded st code bytes) : portStateCode st = code ∧ portStateBytes st = bytes := by
  obtain ⟨rfl, rfl, rfl⟩ | ⟨rfl, rfl, rfl⟩ | ⟨f, cause, refusal, hf, rfl, rfl, rfl⟩ |
    ⟨c, mode, hmode, rfl, rfl, rfl⟩ := h
  · exact ⟨rfl, rfl⟩
  · exact ⟨rfl, rfl⟩
  · exact ⟨rfl, by rw [portStateBytes, faultBytes_of_coded hf]; rfl⟩
  · exact ⟨rfl, by rw [portStateBytes, code_of_mem (code := closeModeCode) hmode (by decide)]; rfl⟩

theorem itemBytes_of_coded {x : ItemView} {kind : Byte}
    (h : (x.kind = none ∧ kind = 0x24#8) ∨ ∃ k, x.kind = some k ∧ (k, kind) ∈ kindCodes) :
    x.bytes = kind :: bytes16 x.stamp := by
  obtain ⟨hk, rfl⟩ | ⟨k, hk, hcode⟩ := h
  · rw [ItemView.bytes, hk]
  · rw [ItemView.bytes, hk, ← kindCode_of_mem hcode]

/-! ### Fields -/

theorem queuedReportFields : Sys2Proof.Claim.QueuedReportFields := by
  rintro rc st p port rfl
  refine ⟨fun d => rfl, fun k kind f cause refusal a cl hkind hfault => ?_, fun a d => rfl,
    fun m => rfl, fun m r code hcode => ?_, fun ty r code hcode => ?_,
    fun c code n last hcode => ?_, rfl⟩
  · rw [TxFrame.body, Report.frameBody, ReportBody.bytes, faultBytes_of_coded hfault,
      kindCode_of_mem hkind]
    rfl
  · rw [← code_of_mem (code := breakCode) hcode (by decide)]; rfl
  · rw [← code_of_mem (code := rejectCode) hcode (by decide)]; rfl
  · rw [← code_of_mem (code := closedCode) hcode (by decide)]; rfl

theorem stateReportFields : Sys2Proof.Claim.StateReportFields := by
  refine ⟨fun st codes link code ac next hst hlink => ?_, fun m low free => rfl, rfl,
    fun es p c => ?_⟩
  · rw [TxFrame.body, streamBytes_of_mem hst, linkCode_of_mem hlink]
  · rw [TxFrame.body, List.flatMap_append]; rfl

theorem snapshotFields : Sys2Proof.Claim.SnapshotFields := by
  refine ⟨fun tag v codes link scan e0 e1 e2 e3 bus hst hlink hscan h0 h1 h2 h3 hbus => ?_,
    fun tag v state last head hstate hhead => ?_⟩
  · have hfences : allFences.flatMap (fun i => fenceEntryBytes v.fences[i]) =
        e0 ++ (e1 ++ (e2 ++ (e3 ++ []))) := by
      rw [← fenceEntryBytes_of_coded h0, ← fenceEntryBytes_of_coded h1,
        ← fenceEntryBytes_of_coded h2, ← fenceEntryBytes_of_coded h3]
      rfl
    rw [TxFrame.body, Answer.frameBody, answerBytes, HubView.bytes, hfences,
      streamBytes_of_mem hst, linkCode_of_mem hlink,
      code_of_mem (code := scanCode) hscan (by decide), busBytes_of_coded hbus]
    · simp only [List.append_assoc, List.append_nil]
      rfl
    · nofun
  · obtain ⟨hcode, hlast⟩ := portState_of_coded hstate
    rw [TxFrame.body, Answer.frameBody, answerBytes, PortView.bytes, hcode, hlast,
      headBytes_of_coded hhead]
    · simp only [List.append_assoc]
      rfl
    · nofun

theorem answerFields : Sys2Proof.Claim.AnswerFields := by
  refine ⟨fun tag p start n => rfl, fun tag p start n items x kind hkind => ?_,
    fun tag c v => rfl, fun tag => rfl, fun rc next => rfl, fun rc a b next => rfl,
    fun tag k hi lo => rfl, fun r => ⟨rfl, rfl⟩⟩
  have hitems : (items ++ [x]).flatMap ItemView.bytes =
      items.flatMap ItemView.bytes ++ kind :: bytes16 x.stamp := by
    rw [List.flatMap_append, List.flatMap_singleton, itemBytes_of_coded hkind]
  have hlength : (items ++ [x]).length = items.length + 1 := List.length_append
  simp only [TxFrame.body, Answer.frameBody, answerBytes, hitems, hlength]
  rfl

/-! ### LEN -/

@[simp] theorem length_bytes16 (c : BitVec 16) : (bytes16 c).length = 2 := rfl

@[simp] theorem length_streamBytes (st : StreamState) : (streamBytes st).length = 3 := by
  unfold streamBytes
  split <;> rfl

@[simp] theorem length_faultBytes (f : FaultCause) : (faultBytes f).length = 2 := by
  cases f <;> rfl

@[simp] theorem length_fenceEntryBytes (e : FenceEntry) : (fenceEntryBytes e).length = 7 := by
  cases e <;> rfl

@[simp] theorem length_busBytes (b : BusView) : (busBytes b).length = 3 := by
  cases b <;> rfl

@[simp] theorem length_headBytes (v : HeadView) : v.bytes.length = 6 := by
  cases v <;> rfl

@[simp] theorem length_portStateBytes (st : PortState) : (portStateBytes st).length = 8 := by
  cases st with
  | faulted f => simp [portStateBytes]
  | _ => rfl

theorem length_flatMap_const {α β : Type} {f : α → List β} {n : Nat} (h : ∀ a, (f a).length = n)
    (l : List α) : (l.flatMap f).length = n * l.length := by
  simp [List.length_flatMap, h, Nat.mul_comm]

theorem length_hubBytes (v : HubView) : v.bytes.length = 48 := by
  simp [HubView.bytes, allFences]

theorem length_portBytes (v : PortView) : v.bytes.length = 34 := by
  simp [PortView.bytes, OpenParams.bytes]

/-- A queued report is TYPE, flags byte and RC before its fields (R178). -/
theorem length_reportBody (r : Report) :
    (TxFrame.report r).body.length = 4 + r.body.bytes.length := by
  simp [TxFrame.body, Report.frameBody]; omega

theorem length_fenceReport (rc st : Count) (m : PortSet) (o : FenceOutcome) :
    (TxFrame.report ⟨rc, .fence st m o⟩).body.length = 11 := by
  cases o <;> rfl

theorem length_recallMiss (rc : Count) (heldRange : Option (Count × Count)) (next : Count) :
    (TxFrame.answer (.recallMiss rc heldRange next)).body.length = 11 := by
  cases heldRange <;> rfl

theorem lengths : Sys2Proof.Claim.Lengths := by
  refine ⟨fun st ac next link => ?_, fun m low free => rfl, fun es => ?_, fun rc p st d => ?_,
    fun rc p st k c a cl => ?_, fun rc p a d => ?_, length_fenceReport, fun rc st ty r => rfl,
    fun rc p st c n last => rfl, fun rc st => rfl, fun tag v => ?_, fun tag v => ?_,
    fun tag p i n items => ?_, fun tag c v => ?_, fun tag => rfl, length_recallMiss,
    fun tag k hi lo => rfl, fun r => rfl⟩
  · simp [TxFrame.body]
  · rw [TxFrame.body, List.length_cons, length_flatMap_const (n := 3) (fun _ => rfl), Nat.add_comm]
  · simp [length_reportBody, ReportBody.bytes]; omega
  · simp [length_reportBody, ReportBody.bytes]
  · simp [length_reportBody, ReportBody.bytes]; omega
  · simp [TxFrame.body, Answer.frameBody, answerBytes, length_hubBytes]
  · simp [TxFrame.body, Answer.frameBody, answerBytes, length_portBytes]
  · have hitems := length_flatMap_const (f := ItemView.bytes) (n := 3) (fun _ => rfl) items
    simp [TxFrame.body, Answer.frameBody, answerBytes, hitems]; omega
  · have htallies := length_flatMap_const length_bytes16 v.toList
    simp [TxFrame.body, Answer.frameBody, answerBytes, htallies]

theorem length_body_of_report {r : Report} (h : frameInBounds (.report r)) :
    4 ≤ (TxFrame.report r).body.length ∧ (TxFrame.report r).body.length ≤ 55 := by
  obtain ⟨-, -, -, hreply, hfault, hevent, hfence, hreject, hclosed, hecho, -⟩ := lengths
  obtain ⟨rc, body⟩ := r
  cases body with
  | reply p st d =>
    have hdata : d.length ≤ 24 := h
    rw [hreply]; omega
  | event p a d =>
    have hdata : 1 ≤ d.length ∧ d.length ≤ 16 := h
    rw [hevent]; omega
  | fault p st k c a cl => rw [hfault]; omega
  | fence st m o => rw [hfence]; omega
  | reject st ty r => rw [hreject]; omega
  | closed p st c n last => rw [hclosed]; omega
  | echo st => rw [hecho]; omega

theorem frameInBounds_recallCopy (r : Report) :
    frameInBounds (.answer (.recallCopy r)) ↔ frameInBounds (.report r) := by
  obtain ⟨rc, body⟩ := r
  cases body <;> rfl

theorem length_body_bounds {f : TxFrame} (h : frameInBounds f) :
    4 ≤ f.body.length ∧ f.body.length ≤ 55 := by
  obtain ⟨hstream, hflow, hprogress, -, -, -, -, -, -, -, hhub, hport, hqueue, htally, hident,
    hmiss, hbad, hcopy⟩ := lengths
  cases f with
  | stream st ac next link => rw [hstream]; omega
  | flow m low free => rw [hflow]; omega
  | progress es =>
    have hentries : 1 ≤ es.length ∧ es.length ≤ 16 := h
    rw [hprogress]; omega
  | report r => exact length_body_of_report h
  | answer a =>
    cases a with
    | hub tag v => rw [hhub]; omega
    | port tag v => rw [hport]; omega
    | queue tag p start total items =>
      have hitems : items.length ≤ 16 := h
      rw [hqueue]; omega
    | tally tag clear values => rw [htally]; omega
    | ident tag => rw [hident]; omega
    | badQuery tag kind hi lo => rw [hbad]; omega
    | recallMiss rc heldRange next => rw [hmiss]; omega
    | recallCopy r =>
      rw [hcopy]
      exact length_body_of_report ((frameInBounds_recallCopy r).mp h)

/-! ### TXD -/

theorem txdLevel_free {s : State} (h : s.line = .free) (k : Nat) : s.txdLevel k = true := by
  rw [State.txdLevel, State.txd, h]

theorem txdLevel_busy {s : State} {f : TxFrame} (h : s.line = .busy f) (k : Nat) :
    s.txdLevel k = (bytesLevels f.bytes)[k]?.getD true := by
  rw [State.txdLevel, State.txd, h]

/-- What stands at bit time `j` of byte `i` of the frame in transmission. -/
theorem txdLevel_byte {s : State} {f : TxFrame} {i j : Nat} {b : Byte} {l : Bool}
    (hline : s.line = .busy f) (hb : f.bytes[i]? = some b) (hj : j < 10)
    (hl : (charLevels ⟨b, false⟩)[j]? = some l) : s.txdLevel (10 * i + j) = l := by
  rw [txdLevel_busy hline, getElem?_bytesLevels f.bytes i j b hb hj, hl]
  rfl

theorem transmission : Sys2Proof.Claim.Transmission := by
  refine ⟨fun f => rfl, fun f => length_body_bounds, fun c => rfl,
    fun s => ⟨txdLevel_free, fun f hline => ⟨fun i b hb => ⟨?_, fun j hj => ?_, ?_⟩,
      fun k hk => ?_⟩⟩⟩
  · exact txdLevel_byte (j := 0) hline hb (by omega) rfl
  · rw [Nat.add_assoc]
    exact txdLevel_byte hline hb (by omega) (getElem?_charLevels_data ⟨b, false⟩ j hj)
  · exact txdLevel_byte hline hb (by omega) rfl
  · rw [txdLevel_busy hline, List.getElem?_eq_none (by rwa [length_bytesLevels])]
    rfl

/-- Settles O48: fields and codes by kind, LEN by kind, and the envelope on TXD. -/
theorem reportLengths : Obligations.ReportLengths :=
  ⟨queuedReportFields, stateReportFields, snapshotFields, answerFields, lengths, transmission⟩

end Sys2Proof.Machine
end

section
/-! PROOF. The queue of commands: one equation of `step` for each of its two cases (logs 1 and 24). -/

namespace Sys2Proof.Machine

/-- With no command waiting the hub idles. -/
theorem step_of_pending_nil {s : State} (h : s.pending = []) : step s = .next s := by
  rw [step, h]

theorem step_of_pending_cons {c : Instr} {rest : List Instr} {s : State}
    (h : s.pending = c :: rest) : step s = exec c { s with pending := rest } := by
  rw [step, h]

/-- A command put at the front of the queue runs on the state as it was before. -/
theorem step_enqueued (c : Instr) (s : State) :
    step { s with pending := c :: s.pending } = exec c s :=
  step_of_pending_cons (s := { s with pending := c :: s.pending }) rfl

/-- Settles O1, by the two cases of `step`. -/
theorem stepRunsTheFrontCommand : Obligations.StepRunsTheFrontCommand :=
  ⟨step_enqueued, fun _ _ _ => step_of_pending_cons, fun _ => step_of_pending_nil⟩

end Sys2Proof.Machine
end
